-- ==== Sys2Proof/Word.lean ====
section
/-! DEFINITION. The words of the block (00_scope R16, R17): bytes, command words, exact fixed-point values and the
numbers of the format NUM. Types and their plainest readings only; rounding and arithmetic are in
Machine/Numeric.lean. -/

namespace Sys2Proof

/-- A bus byte, a register address, a device address or a transfer count (R16). -/
abbrev Byte := BitVec 8

/-- A command word, `A :: OP` (30_encoding R80). -/
abbrev CommandWord := BitVec 16

/-- An exact result of the unpacker: the rational number `num / den` (40_decode, head; R117 c). -/
structure Exact where
  num : Int
  den : Nat
  deriving DecidableEq, Repr, Inhabited

/-- A number of the format NUM in its default instance binary64 (00_scope R14, 41_convert R131): the value
`sig * 2 ^ exp`. Only values of this form with `sig = 0` or `2 ^ 52 ≤ |sig| < 2 ^ 53` are numbers of the format
(`Binary64.canonical`). DEDUCED from R132 and R143, which rule out overflow, subnormals, NaN, infinities and negative
zero on this datapath: the exponent has no bound and none of those is represented (log 6; unsafe only for an EXP that
leaves binary64's range). -/
structure Binary64 where
  sig : Int
  exp : Int
  deriving DecidableEq, Repr, Inhabited

/-- The number 0. -/
def Binary64.zero : Binary64 := ⟨0, 0⟩

/-- A number of the format is 0 in one form, or has a significand of exactly 53 bits (binary64 precision, R131). -/
def Binary64.canonical (x : Binary64) : Bool :=
  x == Binary64.zero || (2 ^ 52 ≤ x.sig.natAbs && x.sig.natAbs < 2 ^ 53)

end Sys2Proof
end

