-- ==== Sys2Proof/Syntax.lean ====
section
/-! DEFINITION. The rows of spec/opcode_table.json, one constructor each: six commands and the class of illegal ones,
nine transactions, seven byte patterns, four sample layouts. -/

namespace Sys2Proof

inductive Instr where
  -- Command words (30_encoding R80 to R83); `a` is bits 15:8, `op` bits 7:0.
  | construct (a : Byte)
  | getPressure (a : Byte)
  | getAltitude (a : Byte)
  | getTemp (a : Byte)
  | getSlp (a : Byte)
  | standby (a : Byte)
  | illegal (a : Byte) (op : Byte)
  -- Transactions (R84); `d` is deviceAddress, bits 23:16.
  | rdWhoami (d : Byte)
  | wrPtcfg (d : Byte)
  | wrCtrlBaro (d : Byte)
  | wrCtrlAlt (d : Byte)
  | wrCtrlStby (d : Byte)
  | rdStatus (d : Byte)
  | rdP3 (d : Byte)
  | rdT2 (d : Byte)
  | rdPt5 (d : Byte)
  -- Byte patterns (R85); `hi` and `lo` are the ignored bits 7:4 and 2:0 of a STATUS byte.
  | idMpl3115a2
  | ptcfgEnable
  | ctrlBaroActive
  | ctrlAltActive
  | ctrlStandby
  | statusReady (hi : BitVec 4) (lo : BitVec 3)
  | statusNotReady (hi : BitVec 4) (lo : BitVec 3)
  -- Sample layouts (R89 to R95), fields from the most significant down: sign, integer, fraction, low nibble.
  | s3Pressure (int : BitVec 18) (frac : BitVec 2) (low : BitVec 4)
  | s3Altitude (sign : BitVec 1) (int : BitVec 15) (frac : BitVec 4) (low : BitVec 4)
  | s2Temperature (sign : BitVec 1) (int : BitVec 7) (frac : BitVec 4) (low : BitVec 4)
  | s5PressureTemperature (int : BitVec 18) (frac : BitVec 2) (low : BitVec 4)
      (tsign : BitVec 1) (tint : BitVec 7) (tfrac : BitVec 4) (tlow : BitVec 4)
  deriving DecidableEq, Repr

/-- Where a word stands decides how it is read (30_encoding, head; R89, R96): on the command port, as a write or a read
transaction, as the byte written to PT_DATA_CFG or CTRL_REG1, as the byte answered for WHO_AM_I or STATUS, or as the
sample a burst of one command and cycle returned. -/
inductive Place where
  | command
  | writeTxn
  | readTxn
  | ptDataCfg
  | ctrlReg1
  | whoAmI
  | status
  | pressure
  | altitude
  | temperature
  | pressureTemperature
  deriving DecidableEq, Repr

/-- The number of bytes of a word in each place (R80, R84, R85, R89 to R91). -/
def Place.bytes : Place → Nat
  | .command => 2
  | .writeTxn => 3
  | .readTxn => 3
  | .ptDataCfg => 1
  | .ctrlReg1 => 1
  | .whoAmI => 1
  | .status => 1
  | .pressure => 3
  | .altitude => 3
  | .temperature => 2
  | .pressureTemperature => 5

/-- The place in which a row's words stand. -/
def Instr.place : Instr → Place
  | .construct _ => .command
  | .getPressure _ => .command
  | .getAltitude _ => .command
  | .getTemp _ => .command
  | .getSlp _ => .command
  | .standby _ => .command
  | .illegal _ _ => .command
  | .rdWhoami _ => .readTxn
  | .wrPtcfg _ => .writeTxn
  | .wrCtrlBaro _ => .writeTxn
  | .wrCtrlAlt _ => .writeTxn
  | .wrCtrlStby _ => .writeTxn
  | .rdStatus _ => .readTxn
  | .rdP3 _ => .readTxn
  | .rdT2 _ => .readTxn
  | .rdPt5 _ => .readTxn
  | .idMpl3115a2 => .whoAmI
  | .ptcfgEnable => .ptDataCfg
  | .ctrlBaroActive => .ctrlReg1
  | .ctrlAltActive => .ctrlReg1
  | .ctrlStandby => .ctrlReg1
  | .statusReady _ _ => .status
  | .statusNotReady _ _ => .status
  | .s3Pressure _ _ _ => .pressure
  | .s3Altitude _ _ _ _ => .altitude
  | .s2Temperature _ _ _ _ => .temperature
  | .s5PressureTemperature _ _ _ _ _ _ _ => .pressureTemperature

end Sys2Proof
end

