-- ==== Sys2Proof/WellFormed.lean ====
section
/-! DEFINITION. Which terms of Instr are words of the table. Field widths are in the types; the one check left is that
the ILLEGAL row stands only for opcodes outside 0x01 to 0x06 (30_encoding R82). -/

namespace Sys2Proof

/-- The opcodes that name an operation (30_encoding R81). -/
def namedOpcode (op : Byte) : Bool := 0x01#8 ≤ op && op ≤ 0x06#8

/-- An instruction is well formed when its fields are those of a word of its row. -/
def Instr.wellFormed : Instr → Bool
  | .illegal _ op => !namedOpcode op
  | .construct _ => true
  | .getPressure _ => true
  | .getAltitude _ => true
  | .getTemp _ => true
  | .getSlp _ => true
  | .standby _ => true
  | .rdWhoami _ => true
  | .wrPtcfg _ => true
  | .wrCtrlBaro _ => true
  | .wrCtrlAlt _ => true
  | .wrCtrlStby _ => true
  | .rdStatus _ => true
  | .rdP3 _ => true
  | .rdT2 _ => true
  | .rdPt5 _ => true
  | .idMpl3115a2 => true
  | .ptcfgEnable => true
  | .ctrlBaroActive => true
  | .ctrlAltActive => true
  | .ctrlStandby => true
  | .statusReady _ _ => true
  | .statusNotReady _ _ => true
  | .s3Pressure _ _ _ => true
  | .s3Altitude _ _ _ _ => true
  | .s2Temperature _ _ _ _ => true
  | .s5PressureTemperature _ _ _ _ _ _ _ => true

end Sys2Proof
end

