-- ==== Sys2Proof/Decode.lean ====
section
/-! DEFINITION. Reading words (30_encoding) as rows of the table, and writing them back. A word is a list of bytes, the
most significant first: `A`, `OP` for a command; device, register, value or count for a transaction; `RAW[0]` first for
a sample (R64). Decode.lean also answers the host's numbered words (`decodeTableWord`). -/

namespace Sys2Proof

/-- Why bytes are no word of the place they stand in. -/
inductive DecodeError where
  /-- The place's words have another length (R97). Safe: nothing is executed. -/
  | wrongLength
  /-- A transaction the block never issues (R84 lists all it can). Safe: nothing is executed. -/
  | noSuchTransaction
  /-- A byte that is no pattern of its place (R85, R116). Safe: nothing is executed. -/
  | noSuchPattern
  deriving DecidableEq, Repr

/-- The command words (R80 to R82): total, an unnamed opcode is the ILLEGAL row. -/
def decodeCommand (a op : Byte) : Instr :=
  if op = 0x01#8 then .construct a
  else if op = 0x02#8 then .getPressure a
  else if op = 0x03#8 then .getAltitude a
  else if op = 0x04#8 then .getTemp a
  else if op = 0x05#8 then .getSlp a
  else if op = 0x06#8 then .standby a
  else .illegal a op

/-- The write transactions (R84). -/
def decodeWrite (d reg value : Byte) : Except DecodeError Instr :=
  if reg = 0x13#8 ∧ value = 0x07#8 then .ok (.wrPtcfg d)
  else if reg = 0x26#8 ∧ value = 0x39#8 then .ok (.wrCtrlBaro d)
  else if reg = 0x26#8 ∧ value = 0xB9#8 then .ok (.wrCtrlAlt d)
  else if reg = 0x26#8 ∧ value = 0x38#8 then .ok (.wrCtrlStby d)
  else .error .noSuchTransaction

/-- The read transactions (R84). -/
def decodeRead (d reg count : Byte) : Except DecodeError Instr :=
  if reg = 0x0C#8 ∧ count = 1#8 then .ok (.rdWhoami d)
  else if reg = 0x00#8 ∧ count = 1#8 then .ok (.rdStatus d)
  else if reg = 0x01#8 ∧ count = 3#8 then .ok (.rdP3 d)
  else if reg = 0x04#8 ∧ count = 2#8 then .ok (.rdT2 d)
  else if reg = 0x01#8 ∧ count = 5#8 then .ok (.rdPt5 d)
  else .error .noSuchTransaction

/-- The byte written to CTRL_REG1 (R85). -/
def decodeCtrl (b : Byte) : Except DecodeError Instr :=
  if b = 0x39#8 then .ok .ctrlBaroActive
  else if b = 0xB9#8 then .ok .ctrlAltActive
  else if b = 0x38#8 then .ok .ctrlStandby
  else .error .noSuchPattern

/-- A STATUS byte, by bit 3 alone (R85, 40_decode R115). -/
def decodeStatus (b : Byte) : Instr :=
  if b.extractLsb' 3 1 = 1#1 then .statusReady (b.extractLsb' 4 4) (b.extractLsb' 0 3)
  else .statusNotReady (b.extractLsb' 4 4) (b.extractLsb' 0 3)

/-- A three-byte sample read as pressure (R93). -/
def decodePressure (m c l : Byte) : Instr :=
  let w : BitVec 24 := m ++ c ++ l
  .s3Pressure (w.extractLsb' 6 18) (w.extractLsb' 4 2) (w.extractLsb' 0 4)

/-- A three-byte sample read as altitude (R94). -/
def decodeAltitude (m c l : Byte) : Instr :=
  let w : BitVec 24 := m ++ c ++ l
  .s3Altitude (w.extractLsb' 23 1) (w.extractLsb' 8 15) (w.extractLsb' 4 4) (w.extractLsb' 0 4)

/-- A two-byte sample read as temperature (R95). -/
def decodeTemperature (m l : Byte) : Instr :=
  let w : BitVec 16 := m ++ l
  .s2Temperature (w.extractLsb' 15 1) (w.extractLsb' 8 7) (w.extractLsb' 4 4) (w.extractLsb' 0 4)

/-- A five-byte sample: pressure, then temperature (R91). -/
def decodePressureTemperature (m c l t u : Byte) : Instr :=
  let w : BitVec 40 := m ++ c ++ l ++ t ++ u
  .s5PressureTemperature (w.extractLsb' 22 18) (w.extractLsb' 20 2) (w.extractLsb' 16 4)
    (w.extractLsb' 15 1) (w.extractLsb' 8 7) (w.extractLsb' 4 4) (w.extractLsb' 0 4)

/-- The row a word stands for in a place; total, and what is no word there is refused by name. -/
def decode (p : Place) (bytes : List Byte) : Except DecodeError Instr :=
  match p, bytes with
  | .command, [a, op] => .ok (decodeCommand a op)
  | .writeTxn, [d, reg, v] => decodeWrite d reg v
  | .readTxn, [d, reg, n] => decodeRead d reg n
  | .ptDataCfg, [b] => if b = 0x07#8 then .ok .ptcfgEnable else .error .noSuchPattern
  | .ctrlReg1, [b] => decodeCtrl b
  | .whoAmI, [b] => if b = 0xC4#8 then .ok .idMpl3115a2 else .error .noSuchPattern
  | .status, [b] => .ok (decodeStatus b)
  | .pressure, [m, c, l] => .ok (decodePressure m c l)
  | .altitude, [m, c, l] => .ok (decodeAltitude m c l)
  | .temperature, [m, l] => .ok (decodeTemperature m l)
  | .pressureTemperature, [m, c, l, t, u] => .ok (decodePressureTemperature m c l t u)
  | _, _ => .error .wrongLength

/-- The bytes of a 16-bit word, the most significant first. -/
def bytes16 (w : BitVec 16) : List Byte := [w.extractLsb' 8 8, w.extractLsb' 0 8]

/-- The bytes of a 24-bit word, the most significant first. -/
def bytes24 (w : BitVec 24) : List Byte := [w.extractLsb' 16 8, w.extractLsb' 8 8, w.extractLsb' 0 8]

/-- The bytes of a 40-bit word, the most significant first. -/
def bytes40 (w : BitVec 40) : List Byte :=
  [w.extractLsb' 32 8, w.extractLsb' 24 8, w.extractLsb' 16 8, w.extractLsb' 8 8, w.extractLsb' 0 8]

/-- The bytes of a row's word (the encoding column of the table; R80 to R95). -/
def encode : Instr → List Byte
  | .construct a => [a, 0x01#8]
  | .getPressure a => [a, 0x02#8]
  | .getAltitude a => [a, 0x03#8]
  | .getTemp a => [a, 0x04#8]
  | .getSlp a => [a, 0x05#8]
  | .standby a => [a, 0x06#8]
  | .illegal a op => [a, op]
  | .rdWhoami d => [d, 0x0C#8, 1#8]
  | .wrPtcfg d => [d, 0x13#8, 0x07#8]
  | .wrCtrlBaro d => [d, 0x26#8, 0x39#8]
  | .wrCtrlAlt d => [d, 0x26#8, 0xB9#8]
  | .wrCtrlStby d => [d, 0x26#8, 0x38#8]
  | .rdStatus d => [d, 0x00#8, 1#8]
  | .rdP3 d => [d, 0x01#8, 3#8]
  | .rdT2 d => [d, 0x04#8, 2#8]
  | .rdPt5 d => [d, 0x01#8, 5#8]
  | .idMpl3115a2 => [0xC4#8]
  | .ptcfgEnable => [0x07#8]
  | .ctrlBaroActive => [0x39#8]
  | .ctrlAltActive => [0xB9#8]
  | .ctrlStandby => [0x38#8]
  | .statusReady hi lo => [hi ++ 1#1 ++ lo]
  | .statusNotReady hi lo => [hi ++ 0#1 ++ lo]
  | .s3Pressure int frac low => bytes24 (int ++ frac ++ low)
  | .s3Altitude sign int frac low => bytes24 (sign ++ int ++ frac ++ low)
  | .s2Temperature sign int frac low => bytes16 (sign ++ int ++ frac ++ low)
  | .s5PressureTemperature int frac low tsign tint tfrac tlow =>
      bytes40 (int ++ frac ++ low ++ tsign ++ tint ++ tfrac ++ tlow)

/-- The rows of a 24-bit word that is not known to be a sample: a read or a write transaction (R84); any other 24 bits
are a sample, read here as pressure. DESIGN CHOICE (log 11; safe): bits alone do not say whether a sample is pressure or
altitude (R89); the step always knows its place. -/
def decodeWord24 (d reg v : Byte) : Instr :=
  match decodeRead d reg v with
  | .ok i => i
  | .error _ =>
    match decodeWrite d reg v with
    | .ok i => i
    | .error _ => decodePressure d reg v

/-- The row of an 8-bit word whose place is not given: the exact patterns first, then STATUS by bit 3.
DESIGN CHOICE (log 11; safe). -/
def decodeWord8 (b : Byte) : Instr :=
  if b = 0xC4#8 then .idMpl3115a2
  else if b = 0x07#8 then .ptcfgEnable
  else
    match decodeCtrl b with
    | .ok i => i
    | .error _ => decodeStatus b

/-- The row of the host's numbered word of `nbits` bits (table numbering: bit 0 least significant). A 16-bit word is a
command. DESIGN CHOICE (log 11; safe) for the widths that two places share. -/
def decodeTableWord (nbits w : Nat) : Option Instr :=
  if nbits = 16 then
    some (decodeCommand (BitVec.ofNat 8 (w / 2 ^ 8)) (BitVec.ofNat 8 w))
  else if nbits = 24 then
    some (decodeWord24 (BitVec.ofNat 8 (w / 2 ^ 16)) (BitVec.ofNat 8 (w / 2 ^ 8)) (BitVec.ofNat 8 w))
  else if nbits = 8 then
    some (decodeWord8 (BitVec.ofNat 8 w))
  else if nbits = 40 then
    some (decodePressureTemperature (BitVec.ofNat 8 (w / 2 ^ 32)) (BitVec.ofNat 8 (w / 2 ^ 24))
      (BitVec.ofNat 8 (w / 2 ^ 16)) (BitVec.ofNat 8 (w / 2 ^ 8)) (BitVec.ofNat 8 w))
  else none

end Sys2Proof
end

