-- ==== Sys2Proof/Config.lean ====
section
/-! DEFINITION. What the spec leaves to the implementation (00_scope section 4, 92_eei_decisions, open parameters) and
the free values. Nothing here has a body that a proof could lean on, but BUS_RETRY_MAX, which the spec fixes. -/

namespace Sys2Proof

/-- The type of `POLL_MAX` (00_scope R11): a positive number of STATUS reads, or `INF` for no bound. -/
inductive PollBound where
  | inf
  | reads (n : Nat) (pos : 0 < n)
  deriving DecidableEq, Repr, Inhabited

/-- `POLL_MAX` (00_scope R11, D16): an open parameter, so a constant without a body (log 8; safe). -/
opaque Config.pollMax : PollBound

/-- `EXP` (00_scope R15, 41_convert R150, D10): an open parameter, a total function of its operand alone, of which
nothing is assumed (log 7; safe but for results that are no finite number). -/
opaque Config.exp : Binary64 → Binary64

/-- `BUS_RETRY_MAX` (00_scope R13, D17): fixed at 0, the first failure raises. -/
def Config.busRetryMax : Nat := 0

/-- FREE VALUE, DESIGN CHOICE (log 9; safe): the quotient by zero, for which 41_convert R132 states no result. No
operand a run can reach divides by zero (R138). -/
opaque Config.divByZero : Binary64 → Binary64

/-- FREE VALUE, DESIGN CHOICE (log 4; safe): the byte that stands in place `i` of RAW where 10_state R30 calls it
unspecified, at the `k`-th time a value is left open. -/
opaque Config.freeByte : Nat → Nat → Byte

/-- FREE VALUE, DESIGN CHOICE (log 4; safe): the number that stands in place `i` of the slots or of H_PMBAR and H_TC
where 10_state R31, R32 call it unspecified, at the `k`-th time a value is left open. -/
opaque Config.freeNum : Nat → Nat → Binary64

end Sys2Proof
end

