-- ==== Sys2Proof/Machine/Numeric.lean ====
section
/-! DEFINITION. The arithmetic of the format NUM (41_convert R131 to R134): rounding to the nearest number of 53
significant bits, ties to even, and the three operations, each one rounding of an exact result. Exact values are
carried as a numerator and a denominator. -/

namespace Sys2Proof.Machine

/-- The numerator of a number's exact value. -/
def numer (x : Binary64) : Int := x.sig * ((2 ^ x.exp.toNat : Nat) : Int)

/-- The denominator of a number's exact value. -/
def denom (x : Binary64) : Nat := 2 ^ (-x.exp).toNat

/-- The whole number nearest to `p / q`, ties to even (R131). -/
def nearestEven (p q : Nat) : Nat :=
  if q < 2 * (p % q) ∨ (2 * (p % q) = q ∧ p / q % 2 = 1) then p / q + 1 else p / q

/-- An exponent `k` for which `m / d` lies between `2 ^ (k + 51)` and `2 ^ (k + 53)`. -/
def roughExp (m d : Nat) : Int := (m.log2 : Int) - (d.log2 : Int) - 52

/-- Significand and exponent of the number nearest to the positive `p / q * 2 ^ k`, where `p / q` lies from `2 ^ 52`
up to `2 ^ 53`; a significand rounded up to `2 ^ 53` is halved. -/
def roundScaled (p q : Nat) (k : Int) : Nat × Int :=
  if nearestEven p q = 2 ^ 53 then (2 ^ 52, k + 1) else (nearestEven p q, k)

/-- As `roundScaled` for `p / q` from `2 ^ 51` up: below `2 ^ 52` one exponent lower. -/
def roundNormalized (p q : Nat) (k : Int) : Nat × Int :=
  if p < q * 2 ^ 52 then roundScaled (2 * p) q (k - 1) else roundScaled p q k

/-- Significand and exponent of the number nearest to the positive `m / d`. -/
def roundMagnitude (m d : Nat) : Nat × Int :=
  roundNormalized (m * 2 ^ (-roughExp m d).toNat) (d * 2 ^ (roughExp m d).toNat) (roughExp m d)

/-- `rnd` of the exact value `n / d` (R131). -/
def roundFrac (n : Int) (d : Nat) : Binary64 :=
  if n = 0 then Binary64.zero
  else ⟨n.sign * ((roundMagnitude n.natAbs d).1 : Int), (roundMagnitude n.natAbs d).2⟩

/-- `lit("n/d")`: the number delivered for a decimal literal (R133). -/
def lit (n : Nat) (d : Nat) : Binary64 := roundFrac n d

/-- An exact value of the unpacker enters the converter (R134: without error). -/
def ofExact (x : Exact) : Binary64 := roundFrac x.num x.den

/-- `a (+) b` (R132). -/
def numAdd (a b : Binary64) : Binary64 :=
  roundFrac (numer a * denom b + numer b * denom a) (denom a * denom b)

/-- `a (*) b` (R132). -/
def numMul (a b : Binary64) : Binary64 := roundFrac (numer a * numer b) (denom a * denom b)

/-- A number as it stands in the format: any pair is brought to the form of `Binary64.canonical`. -/
def renorm (x : Binary64) : Binary64 := roundFrac (numer x) (denom x)

/-- `a (/) b` (R132, for `b ≠ 0`). For `b = 0`, for which R132 states nothing, a free value (log 9). -/
def numDiv (a b : Binary64) : Binary64 :=
  if b.sig = 0 then renorm (Config.divByZero a)
  else roundFrac (numer a * denom b * b.sig.sign) (denom a * (numer b).natAbs)

/-- `EXP` (R150), its result a number of the format (log 7). -/
def numExp (e : Binary64) : Binary64 := renorm (Config.exp e)

end Sys2Proof.Machine
end

