-- ==== Sys2Proof/Machine/State.lean ====
section
/-! DEFINITION. The state of the block: the registers of 10_state R21, and the block's inputs and outputs as plain data
(the command port and what the host will do, the environment's answers to come, the transactions issued). -/

namespace Sys2Proof.Machine

/-- `ST`, the sequencer state (10_state R26): no binary code. -/
inductive SeqState where
  | idle
  | configWritten
  | polling
  | dataReady
  | decoded
  | single
  deriving DecidableEq, Repr

/-- `RES_KIND` (10_state R32): no binary code. -/
inductive ResKind where
  | none
  | pressure
  | altitude
  | temp
  | slp
  deriving DecidableEq, Repr

/-- `ERR_KIND` (10_state R33, 60_exceptions R207). -/
inductive ErrKind where
  | none
  | identityMismatch
  | busError
  | acquisitionTimeout
  | illegalCommand
  | notConstructed
  deriving DecidableEq, Repr

/-- The burst buffer `RAW[0..4]` (10_state R30). -/
structure RawBuffer where
  b0 : Byte
  b1 : Byte
  b2 : Byte
  b3 : Byte
  b4 : Byte
  deriving DecidableEq, Repr

/-- A transaction, the argument tuple of `writeRegister` or `readRegister` (20_memory R50 to R52, 30_encoding R84). -/
inductive Txn where
  | wr (dev reg value : Byte)
  | rd (dev reg count : Byte)
  deriving DecidableEq, Repr

/-- What the environment does with the outstanding transaction during one step (20_memory R54, R56, R66).
DESIGN CHOICE (log 2; safe): `silent` is a step in which no answer arrives. -/
inductive Answer where
  | ok (bytes : List Byte)
  | busError
  | silent
  deriving DecidableEq, Repr

/-- The outcome of an answered transaction as the block sees it: `Ok` with its bytes, or `BusError` (20_memory R54). -/
inductive Reply where
  | ok (bytes : List Byte)
  | busError
  deriving DecidableEq, Repr

/-- One entry of the trace: a transaction with its outcome, or one that a reset cut off before it was answered
(70 R230: whether the sensor saw it is unknown). -/
inductive Exchange where
  | answered (t : Txn) (r : Reply)
  | abandoned (t : Txn)
  deriving DecidableEq, Repr

/-- What the host does between two steps (10_state R34; 42_operations R160; 70 R230). DESIGN CHOICE (log 1; safe). -/
inductive HostAction where
  | rest
  | present (word : CommandWord)
  | withdraw
  | reset
  deriving DecidableEq, Repr

structure State where
  /-- `DEV_ADDR` (R22). -/
  devAddr : Byte
  /-- `IDENT_OK` (R23). -/
  identOk : Bool
  /-- `BUSY` (R24). -/
  busy : Bool
  /-- `DONE` (R25). -/
  done : Bool
  /-- `ST` (R26). -/
  st : SeqState
  /-- `OPC` (R27). -/
  opc : Byte
  /-- `SUB` (R28): `true` is 1. -/
  sub : Bool
  /-- `PHASE` (R28): `true` is 1. -/
  phase : Bool
  /-- `POLLCNT` (R29). -/
  pollCnt : Nat
  /-- `RAW[0..4]` (R30). -/
  raw : RawBuffer
  /-- `H_PMBAR` (R31). -/
  hPmbar : Binary64
  /-- `H_TC` (R31). -/
  hTc : Binary64
  /-- `RES_KIND` (R32). -/
  resKind : ResKind
  /-- `V0` (R32). -/
  v0 : Binary64
  /-- `V1` (R32). -/
  v1 : Binary64
  /-- `V2` (R32). -/
  v2 : Binary64
  /-- `ERR_KIND` (R33). -/
  errKind : ErrKind
  /-- `ERR_CAUSE` (R33). -/
  errCause : Bool
  /-- `ERR_INFO` (R33). -/
  errInfo : Byte
  /-- Input: the word now on the command port (42_operations R160; log 1). -/
  cmdPort : Option CommandWord
  /-- Input: what the host does before each coming step; after its end it does nothing (log 1). -/
  host : List HostAction
  /-- Input: what the environment answers in the coming steps; after its end it never answers (20_memory R56, R66;
  log 2). -/
  answers : List Answer
  /-- The transaction issued and not yet answered (20_memory R56; log 2). -/
  outstanding : Option Txn
  /-- Output: the transactions so far, oldest first (42_operations R177; log 12). -/
  trace : List Exchange
  /-- The model's own counter of values left open (log 4). -/
  free : Nat
  deriving DecidableEq, Repr

/-- Why the machine stops with a fault. -/
inductive Fault where
  /-- Raised by `step` in a state in which no rule of the spec gives the next step: `ST`, `OPC` and `PHASE` in a
  combination outside 42_operations R162, R168. No run reaches one (10_state R41). Safe: nothing is claimed there
  (log 13). -/
  | noSequencerRule
  deriving DecidableEq, Repr

/-- Why a row of the table gets no meaning in a state. -/
inductive Refusal where
  /-- Raised by no arm of `exec` (every row has its meaning). Safe. -/
  | notModelled (mnemonic : String)
  /-- Raised by the meaning of a transaction, a byte pattern or a sample layout in a state in which the sequencer does not
  issue that transaction, carry that byte or hold that sample (42_operations R176: there is no such step). `step` never
  raises it. Safe: nothing is claimed of what the block never does (log 10). -/
  | outOfSequence
  /-- Raised by `step` if the word it fetched were no word of its place; no state gives such a word. Safe. -/
  | undecodable
  deriving DecidableEq, Repr

/-- The state after reset (10_state R39, 70 R230). The spec gives `DEV_ADDR`, `OPC`, `RAW`, `H_PMBAR`, `H_TC`, `V0..V2`
no value: zero, DESIGN CHOICE (log 3; unsafe). The inputs are empty and nothing has been issued: DESIGN CHOICE (log 1,
2, 12); the counter of open values starts at 0: DESIGN CHOICE (log 4). -/
def State.reset : State where
  devAddr := 0#8
  identOk := false
  busy := false
  done := false
  st := .idle
  opc := 0#8
  sub := false
  phase := false
  pollCnt := 0
  raw := ⟨0#8, 0#8, 0#8, 0#8, 0#8⟩
  hPmbar := Binary64.zero
  hTc := Binary64.zero
  resKind := .none
  v0 := Binary64.zero
  v1 := Binary64.zero
  v2 := Binary64.zero
  errKind := .none
  errCause := false
  errInfo := 0#8
  cmdPort := none
  host := []
  answers := []
  outstanding := none
  trace := []
  free := 0

end Sys2Proof.Machine
end

