-- ==== Sys2Proof/Machine/Ops.lean ====
section
/-! DEFINITION. The named operations over the state: the values the spec leaves open, `raise` (60_exceptions R206) and
`finish` (42_operations R167), accepting a command (R160, R161), one transaction (10_state R20, 20_memory R54, R56),
the cycle parameters (R162), what the sequencer does next (R176), reset and the host's turn. -/

namespace Sys2Proof.Machine

/-! ### Values the spec leaves open (10_state R30 to R32; log 4) -/

/-- The byte left open in place `i` of RAW. -/
def State.openByte (s : State) (i : Nat) : Byte := Config.freeByte s.free i

/-- The number left open in place `i`. -/
def State.openNum (s : State) (i : Nat) : Binary64 := renorm (Config.freeNum s.free i)

/-- `RAW[0..n-1]` takes the bytes of a burst and `RAW[n..4]` become unspecified (R30). -/
def State.loadRaw (s : State) (bytes : List Byte) : State :=
  { s with
    raw := ⟨bytes.getD 0 (s.openByte 0), bytes.getD 1 (s.openByte 1), bytes.getD 2 (s.openByte 2),
      bytes.getD 3 (s.openByte 3), bytes.getD 4 (s.openByte 4)⟩
    free := s.free + 1 }

/-- After the Decoded step `RAW` is unspecified (R30). -/
def State.dropRaw (s : State) : State := s.loadRaw []

/-- At the end of a command `RAW`, `H_PMBAR` and `H_TC` are unspecified (R30, R31). -/
def State.dropSample (s : State) : State :=
  { s.dropRaw with
    hPmbar := s.openNum 5
    hTc := s.openNum 6 }

/-- No result: `RES_KIND <- None`, by which `V0..V2` are unspecified (R32). -/
def State.clearResult (s : State) : State :=
  { s with
    resKind := .none
    v0 := s.openNum 0
    v1 := s.openNum 1
    v2 := s.openNum 2
    free := s.free + 1 }

/-! ### The end of a command -/

/-- `ST <- Idle; BUSY <- 0; DONE <- 1`, in which a completed and a failed command end alike (R167, R206). -/
def State.endCommand (s : State) : State :=
  { s.dropSample with st := .idle, busy := false, done := true }

/-- `finish` (R167). -/
def State.finish (s : State) : State := s.endCommand

/-- `raise E(cause, info)` (60_exceptions R206): the one way a command fails. -/
def State.raise (s : State) (e : ErrKind) (cause : Bool) (info : Byte) : State :=
  { s.clearResult.endCommand with errKind := e, errCause := cause, errInfo := info }

/-! ### Accepting a command (R160, R161) -/

/-- `accept` before dispatch (R160): `OPC` latched, the last command's outcome cleared, counters 0. The word is taken
off the port: DESIGN CHOICE (log 1; safe). -/
def State.accept (s : State) (op : Byte) : State :=
  { s.clearResult with
    opc := op
    done := false
    errKind := .none
    errCause := false
    errInfo := 0#8
    sub := false
    phase := false
    pollCnt := 0
    cmdPort := none }

/-- A command word is accepted only while `BUSY = 0`; otherwise it has no effect and stays pending (R160). -/
def State.command (s : State) (op : Byte) (dispatch : State → State) :
    Host.Outcome State Fault Refusal :=
  .next (if s.busy then s else dispatch (s.accept op))

/-- Dispatch cases 4 and 5 (R161): begin in `target`, or `NotConstructed` when `IDENT_OK = 0` (case 3, R205). -/
def State.beginIn (s : State) (target : SeqState) : State :=
  if s.identOk then { s with busy := true, st := target } else s.raise .notConstructed false s.opc

/-! ### Cycle parameters (R162) -/

/-- One row of R162: the byte for CTRL_REG1, the burst's first register and length, and how its sample is read. -/
structure Cycle where
  ctrlPat : Byte
  start : Byte
  count : Byte
  layout : Place
  deriving DecidableEq, Repr

/-- The table of R162, by `(OPC, PHASE)`. -/
def cycleOf (opc : Byte) (phase : Bool) : Option Cycle :=
  if opc = 0x02#8 ∧ phase = false then some ⟨0x39#8, 0x01#8, 3#8, .pressure⟩
  else if opc = 0x03#8 ∧ phase = false then some ⟨0xB9#8, 0x01#8, 3#8, .altitude⟩
  else if opc = 0x04#8 ∧ phase = false then some ⟨0x39#8, 0x04#8, 2#8, .temperature⟩
  else if opc = 0x05#8 ∧ phase = false then some ⟨0x39#8, 0x01#8, 5#8, .pressureTemperature⟩
  else if opc = 0x05#8 ∧ phase = true then some ⟨0xB9#8, 0x01#8, 3#8, .altitude⟩
  else none

/-- The row of R162 the running command and cycle select. -/
def State.cycle (s : State) : Option Cycle := cycleOf s.opc s.phase

/-! ### Transactions (20_memory R50 to R56) -/

/-- The transaction the sequencer issues in this state (R163 to R166, R168), if its next step is one. -/
def State.request (s : State) : Option Txn :=
  match s.st with
  | .idle => none
  | .decoded => none
  | .single =>
    if s.opc = 0x01#8 then some (.rd s.devAddr 0x0C#8 1#8)
    else if s.opc = 0x06#8 then some (.wr s.devAddr 0x26#8 0x38#8)
    else none
  | .configWritten =>
    if s.sub then s.cycle.map fun c => .wr s.devAddr 0x26#8 c.ctrlPat
    else some (.wr s.devAddr 0x13#8 0x07#8)
  | .polling => some (.rd s.devAddr 0x00#8 1#8)
  | .dataReady => s.cycle.map fun c => .rd s.devAddr c.start c.count

/-- An `Ok` answer as the block takes it (R54): a read must carry as many bytes as it asked for, or it is `BusError`.
The answer to a write carries no bytes; DESIGN CHOICE (log 14; safe): any it had are ignored. -/
def Txn.judge (t : Txn) (bytes : List Byte) : Reply :=
  match t with
  | .wr _ _ _ => .ok []
  | .rd _ _ count => if bytes.length = count.toNat then .ok bytes else .busError

/-- The transaction has been answered: it leaves the bus and enters the trace, and the rest of the answers is to come. -/
def State.answered (s : State) (t : Txn) (r : Reply) (rest : List Answer) : State :=
  { s with answers := rest, outstanding := none, trace := s.trace ++ [.answered t r] }

/-- The block waits for the answer to the transaction it has issued (R56). -/
def State.waiting (s : State) (t : Txn) (rest : List Answer) : State :=
  { s with answers := rest, outstanding := some t }

/-- One step on the bus (10_state R20): the transaction with the register updates that depend on its answer; with no
answer the block waits (20_memory R56, 70 R245; log 2). -/
def State.exchange (s : State) (t : Txn) (update : Reply → State → State) : State :=
  match s.answers with
  | [] => s.waiting t []
  | .silent :: rest => s.waiting t rest
  | .busError :: rest => update .busError (s.answered t .busError rest)
  | .ok bytes :: rest => update (t.judge bytes) (s.answered t (t.judge bytes) rest)

/-- A transaction runs in the states in which the sequencer issues it; elsewhere there is no such step (R176). -/
def State.transact (s : State) (t : Txn) (update : Reply → State → State) :
    Host.Outcome State Fault Refusal :=
  if s.request = some t then .next (s.exchange t update) else .refused .outOfSequence

/-- The one byte of a one-byte answer. -/
def Reply.byte : Reply → Option Byte
  | .ok [b] => some b
  | .ok _ => none
  | .busError => none

/-- The transaction `t` is what the sequencer issues and its answer, already there, is the byte `b`. -/
def State.answeredWith (s : State) (t : Txn) (b : Byte) : Bool :=
  s.request == some t && s.answers.head? == some (.ok [b])

/-! ### What the sequencer does next -/

/-- The bytes of a transaction as the table writes it (30_encoding R84). -/
def Txn.bytes : Txn → List Byte
  | .wr dev reg value => [dev, reg, value]
  | .rd dev reg count => [dev, reg, count]

/-- Where a transaction's word stands. -/
def Txn.place : Txn → Place
  | .wr _ _ _ => .writeTxn
  | .rd _ _ _ => .readTxn

/-- The bytes of the sample in RAW, by its layout (R89 to R91). -/
def State.sampleBytes (s : State) : Place → List Byte
  | .temperature => [s.raw.b0, s.raw.b1]
  | .pressureTemperature => [s.raw.b0, s.raw.b1, s.raw.b2, s.raw.b3, s.raw.b4]
  | .pressure => [s.raw.b0, s.raw.b1, s.raw.b2]
  | .altitude => [s.raw.b0, s.raw.b1, s.raw.b2]
  | .command => []
  | .writeTxn => []
  | .readTxn => []
  | .ptDataCfg => []
  | .ctrlReg1 => []
  | .whoAmI => []
  | .status => []

/-- The sample the Decoded step reads: its layout by R162, and its bytes; `none` outside `Decoded`. -/
def State.sample (s : State) : Option (Place × List Byte) :=
  match s.st with
  | .decoded => s.cycle.map fun c => (c.layout, s.sampleBytes c.layout)
  | .idle => none
  | .configWritten => none
  | .polling => none
  | .dataReady => none
  | .single => none

/-- What the next step reads: a word in its place, nothing (an idle block with no command), or no rule at all. -/
inductive Fetched where
  | word (p : Place) (bytes : List Byte)
  | nothing
  | noRule
  deriving DecidableEq, Repr

/-- The word the next step runs (10_state R26: `ST` with `SUB`, `PHASE` and `OPC` decides): the command on the port when
idle, the sample when decoding, and otherwise the transaction the sequencer issues. -/
def State.fetch (s : State) : Fetched :=
  match s.st with
  | .idle =>
    match s.cmdPort with
    | some cw => .word .command (bytes16 cw)
    | none => .nothing
  | .decoded =>
    match s.sample with
    | some (p, bytes) => .word p bytes
    | none => .noRule
  | _ =>
    match s.request with
    | some t => .word t.place t.bytes
    | none => .noRule

/-! ### The host's turn and reset -/

/-- The entry a reset leaves for a transaction it cuts off (70 R230: whether the sensor saw it is unknown). -/
def abandon : Option Txn → List Exchange
  | none => []
  | some t => [.abandoned t]

/-- Reset (70 R230, R232): every register at its reset value, in one step, with no transaction and no error recorded.
The inputs stay as they are, and a transaction that was outstanding is left without an answer (log 15). -/
def State.resetStep (s : State) : State :=
  { State.reset with
    cmdPort := s.cmdPort
    host := s.host
    answers := s.answers
    trace := s.trace ++ abandon s.outstanding
    free := s.free }

/-- What the host does before a step (log 1): `none` when it asserts reset, else the state with its change to the
command port. Either way the action is used up. -/
def State.hostTurn (s : State) : State × Bool :=
  match s.host with
  | [] => (s, false)
  | .rest :: later => ({ s with host := later }, false)
  | .present cw :: later => ({ s with host := later, cmdPort := some cw }, false)
  | .withdraw :: later => ({ s with host := later, cmdPort := none }, false)
  | .reset :: later => ({ s with host := later }, true)

end Sys2Proof.Machine
end

