-- ==== Sys2Proof/Machine/Commands.lean ====
section
/-! DEFINITION. The command words (42_operations R160, R161, R170 to R175; 60_exceptions R204, R205): each is the
accepting step of its command. -/

namespace Sys2Proof.Machine

/-- CONSTRUCT (R170): dispatch case 2, whatever `IDENT_OK` is. -/
def execConstruct (a : Byte) (s : State) : Host.Outcome State Fault Refusal :=
  s.command 0x01#8 fun t => { t with devAddr := a, identOk := false, busy := true, st := .single }

/-- GET_PRESSURE (R171); the operand is ignored (30_encoding R83). -/
def execGetPressure (_a : Byte) (s : State) : Host.Outcome State Fault Refusal :=
  s.command 0x02#8 fun t => t.beginIn .configWritten

/-- GET_ALTITUDE (R172); the operand is ignored. -/
def execGetAltitude (_a : Byte) (s : State) : Host.Outcome State Fault Refusal :=
  s.command 0x03#8 fun t => t.beginIn .configWritten

/-- GET_TEMP (R173); the operand is ignored. -/
def execGetTemp (_a : Byte) (s : State) : Host.Outcome State Fault Refusal :=
  s.command 0x04#8 fun t => t.beginIn .configWritten

/-- GET_SLP (R174); the operand is ignored. -/
def execGetSlp (_a : Byte) (s : State) : Host.Outcome State Fault Refusal :=
  s.command 0x05#8 fun t => t.beginIn .configWritten

/-- STANDBY (R175); the operand is ignored. -/
def execStandby (_a : Byte) (s : State) : Host.Outcome State Fault Refusal :=
  s.command 0x06#8 fun t => t.beginIn .single

/-- An opcode that names no operation (30_encoding R82, 60_exceptions R204): accepted, then `IllegalCommand`. -/
def execIllegal (_a op : Byte) (s : State) : Host.Outcome State Fault Refusal :=
  s.command op fun t => t.raise .illegalCommand false op

end Sys2Proof.Machine
end

