-- ==== Sys2Proof/Machine/Flags.lean ====
section
/-! DEFINITION. The two conditions the sequencer branches on (10_state R37, 40_decode R115, R116). The block has no
arithmetic condition codes. -/

namespace Sys2Proof.Machine

/-- `RDY(s) = (s & 0x08) ≠ 0` (R115). -/
def rdy (s : Byte) : Bool := (s &&& 0x08#8) != 0#8

/-- `IDCHK(b) = (b = 0xC4)` (R116). -/
def idChk (b : Byte) : Bool := b == 0xC4#8

end Sys2Proof.Machine
end

