-- ==== Sys2Proof/Machine/Transactions.lean ====
section
/-! DEFINITION. The nine transactions (30_encoding R84): each is the sequencer's step that issues it, with the register
updates that depend on its answer (42_operations R163 to R166, R168). -/

namespace Sys2Proof.Machine

/-- CONSTRUCT's step after a WHO_AM_I byte arrived (R168, 60_exceptions R201). -/
def State.onIdentity (s : State) (b : Byte) : State :=
  if idChk b then { s with identOk := true }.finish else s.raise .identityMismatch false b

/-- CONSTRUCT's step by the identity read's answer (R168): a bus failure is `IdentityMismatch` with cause 1. -/
def State.afterIdentity (r : Reply) (s : State) : State :=
  match r.byte with
  | some b => s.onIdentity b
  | none => s.raise .identityMismatch true 0#8

/-- After the first setup write (R163). -/
def State.afterPtcfg (r : Reply) (s : State) : State :=
  match r with
  | .ok _ => { s with sub := true }
  | .busError => s.raise .busError false 0x13#8

/-- After the second setup write (R164). -/
def State.afterCtrl (r : Reply) (s : State) : State :=
  match r with
  | .ok _ => { s with sub := false, pollCnt := 0, st := .polling }
  | .busError => s.raise .busError false 0x26#8

/-- After STANDBY's write (R168). -/
def State.afterStandby (r : Reply) (s : State) : State :=
  match r with
  | .ok _ => s.finish
  | .busError => s.raise .busError false 0x26#8

/-- `POLL_MAX ≠ INF ∧ POLLCNT + 1 = POLL_MAX` (R165). -/
def budgetSpent (bound : PollBound) (pollCnt : Nat) : Bool :=
  match bound with
  | .inf => false
  | .reads n _ => pollCnt + 1 == n

/-- A STATUS byte with bit 3 clear (R165): the budget is spent, or one more read is counted. -/
def State.onNotReady (bound : PollBound) (s : State) (b : Byte) : State :=
  if budgetSpent bound s.pollCnt then s.raise .acquisitionTimeout false b
  else { s with pollCnt := s.pollCnt + 1 }

/-- The ready test (R165, in the order of 60_exceptions R208 b). -/
def State.onStatus (bound : PollBound) (s : State) (b : Byte) : State :=
  if rdy b then { s with st := .dataReady } else s.onNotReady bound b

/-- After a STATUS read (R165). -/
def State.afterStatus (bound : PollBound) (r : Reply) (s : State) : State :=
  match r.byte with
  | some b => s.onStatus bound b
  | none => s.raise .busError false 0x00#8

/-- After a burst read from `start` (R166). -/
def State.afterBurst (start : Byte) (r : Reply) (s : State) : State :=
  match r with
  | .ok bytes => { s.loadRaw bytes with st := .decoded }
  | .busError => s.raise .busError false start

/-- RD_WHOAMI (R168). -/
def execRdWhoami (d : Byte) (s : State) : Host.Outcome State Fault Refusal :=
  s.transact (.rd d 0x0C#8 1#8) State.afterIdentity

/-- WR_PTCFG (R163). -/
def execWrPtcfg (d : Byte) (s : State) : Host.Outcome State Fault Refusal :=
  s.transact (.wr d 0x13#8 0x07#8) State.afterPtcfg

/-- WR_CTRL_BARO (R164). -/
def execWrCtrlBaro (d : Byte) (s : State) : Host.Outcome State Fault Refusal :=
  s.transact (.wr d 0x26#8 0x39#8) State.afterCtrl

/-- WR_CTRL_ALT (R164). -/
def execWrCtrlAlt (d : Byte) (s : State) : Host.Outcome State Fault Refusal :=
  s.transact (.wr d 0x26#8 0xB9#8) State.afterCtrl

/-- WR_CTRL_STBY (R168). -/
def execWrCtrlStby (d : Byte) (s : State) : Host.Outcome State Fault Refusal :=
  s.transact (.wr d 0x26#8 0x38#8) State.afterStandby

/-- RD_STATUS (R165). -/
def execRdStatus (d : Byte) (s : State) : Host.Outcome State Fault Refusal :=
  s.transact (.rd d 0x00#8 1#8) (State.afterStatus Config.pollMax)

/-- RD_P3 (R166). -/
def execRdP3 (d : Byte) (s : State) : Host.Outcome State Fault Refusal :=
  s.transact (.rd d 0x01#8 3#8) (State.afterBurst 0x01#8)

/-- RD_T2 (R166). -/
def execRdT2 (d : Byte) (s : State) : Host.Outcome State Fault Refusal :=
  s.transact (.rd d 0x04#8 2#8) (State.afterBurst 0x04#8)

/-- RD_PT5 (R166). -/
def execRdPt5 (d : Byte) (s : State) : Host.Outcome State Fault Refusal :=
  s.transact (.rd d 0x01#8 5#8) (State.afterBurst 0x01#8)

end Sys2Proof.Machine
end

