-- ==== Sys2Proof/Machine/Patterns.lean ====
section
/-! DEFINITION. The seven byte patterns (30_encoding R85). A pattern is no step of its own: it is the byte one of the
sequencer's transactions carries, and its meaning is the step that carries it (log 10; safe). -/

namespace Sys2Proof.Machine

/-- The step in which the answer to `t` is the byte `b`. -/
def State.receive (s : State) (t : Txn) (b : Byte) (update : State → State) :
    Host.Outcome State Fault Refusal :=
  if s.answeredWith t b then .next (update (s.answered t (.ok [b]) s.answers.tail)) else .refused .outOfSequence

/-- ID_MPL3115A2 (40_decode R116, 42_operations R168): the WHO_AM_I byte that passes the identity check. -/
def execIdMpl3115a2 (s : State) : Host.Outcome State Fault Refusal :=
  s.receive (.rd s.devAddr 0x0C#8 1#8) 0xC4#8 fun t => t.onIdentity 0xC4#8

/-- PTCFG_ENABLE (R163): the byte written to PT_DATA_CFG. -/
def execPtcfgEnable (s : State) : Host.Outcome State Fault Refusal :=
  s.transact (.wr s.devAddr 0x13#8 0x07#8) State.afterPtcfg

/-- CTRL_BARO_ACTIVE (R164): the byte written to CTRL_REG1 for barometer mode. -/
def execCtrlBaroActive (s : State) : Host.Outcome State Fault Refusal :=
  s.transact (.wr s.devAddr 0x26#8 0x39#8) State.afterCtrl

/-- CTRL_ALT_ACTIVE (R164): the byte written to CTRL_REG1 for altimeter mode. -/
def execCtrlAltActive (s : State) : Host.Outcome State Fault Refusal :=
  s.transact (.wr s.devAddr 0x26#8 0xB9#8) State.afterCtrl

/-- CTRL_STANDBY (R168, R175): the byte written to CTRL_REG1 by STANDBY. -/
def execCtrlStandby (s : State) : Host.Outcome State Fault Refusal :=
  s.transact (.wr s.devAddr 0x26#8 0x38#8) State.afterStandby

/-- STATUS_READY (40_decode R115, R165): a STATUS byte with bit 3 set. -/
def execStatusReady (hi : BitVec 4) (lo : BitVec 3) (s : State) : Host.Outcome State Fault Refusal :=
  s.receive (.rd s.devAddr 0x00#8 1#8) (hi ++ 1#1 ++ lo) fun t => t.onStatus Config.pollMax (hi ++ 1#1 ++ lo)

/-- STATUS_NOT_READY (40_decode R115, R165): a STATUS byte with bit 3 clear. -/
def execStatusNotReady (hi : BitVec 4) (lo : BitVec 3) (s : State) : Host.Outcome State Fault Refusal :=
  s.receive (.rd s.devAddr 0x00#8 1#8) (hi ++ 0#1 ++ lo) fun t => t.onStatus Config.pollMax (hi ++ 0#1 ++ lo)

end Sys2Proof.Machine
end

