-- ==== Sys2Proof/Machine/Convert.lean ====
section
/-! DEFINITION. The converter (41_convert R135 to R141): the NUM sequences in the order the spec writes them, with the
constants of R140. -/

namespace Sys2Proof.Machine

/-- `K_MBAR` (R140). -/
def kMbar : Binary64 := lit 100 1
/-- `K_INHG_PA` (R140). -/
def kInHgPa : Binary64 := lit 3386 1
/-- `K_PSI_PA` (R140). -/
def kPsiPa : Binary64 := lit 6895 1
/-- `K_FT` = 3.281 (R140). -/
def kFt : Binary64 := lit 3281 1000
/-- `K_INHG_MB` = 33.864 (R140). -/
def kInHgMb : Binary64 := lit 33864 1000
/-- `K_PSI_MB` = 68.948 (R140). -/
def kPsiMb : Binary64 := lit 68948 1000
/-- `K_KELVIN` = 273.15 (R140). -/
def kKelvin : Binary64 := lit 27315 100
/-- `G` = 9.80665 (R140). -/
def kG : Binary64 := lit 980665 100000
/-- `RD` = 287.05 (R140). -/
def kRd : Binary64 := lit 28705 100

/-- Three slots of a record, `(V0, V1, V2)`. -/
structure Triple where
  v0 : Binary64
  v1 : Binary64
  v2 : Binary64
  deriving DecidableEq, Repr

/-- `CONV_P` (R135): mBar, inHg, PSI from pascals. -/
def convP (p : Binary64) : Triple := ⟨numDiv p kMbar, numDiv p kInHgPa, numDiv p kPsiPa⟩

/-- `CONV_A` (R136): meters, feet. -/
def convA (a : Binary64) : Binary64 × Binary64 := (a, numMul a kFt)

/-- `CONV_T` (R137): Celsius, Fahrenheit `((c * 9) / 5) + 32`, Kelvin. -/
def convT (c : Binary64) : Triple :=
  ⟨c, numAdd (numDiv (numMul c (lit 9 1)) (lit 5 1)) (lit 32 1), numAdd c kKelvin⟩

/-- The exponent `e` of R138. -/
def slpExponent (c a : Binary64) : Binary64 :=
  numDiv (numMul kG a) (numMul kRd (numAdd c kKelvin))

/-- `SLP` (R138) for a given exponential function. -/
def slpWith (ex : Binary64 → Binary64) (pm c a : Binary64) : Binary64 := numMul pm (ex (slpExponent c a))

/-- `SLP` (R138) with the block's `EXP`. -/
def slp (pm c a : Binary64) : Binary64 := slpWith numExp pm c a

/-- `CONV_SLP` (R139): mBar, inHg, PSI from mBar. -/
def convSlp (x : Binary64) : Triple := ⟨x, numDiv x kInHgMb, numDiv x kPsiMb⟩

end Sys2Proof.Machine
end

