-- ==== Sys2Proof/Machine/Operands.lean ====
section
/-! DEFINITION. The unpacker (40_decode): the pure functions from sample bytes to exact values. -/

namespace Sys2Proof.Machine

/-- `ASM32` (R110): `(MSB << 24) | (CSB << 16) | (LSB << 8)`. -/
def asm32 (msb csb lsb : Byte) : BitVec 32 :=
  (msb.setWidth 32 <<< 24) ||| (csb.setWidth 32 <<< 16) ||| (lsb.setWidth 32 <<< 8)

/-- `DEC_P` (R111): pascals, the packed word read unsigned over 16384. -/
def decP (msb csb lsb : Byte) : Exact := ⟨((asm32 msb csb lsb).toNat : Int), 16384⟩

/-- `DEC_A` (R112): meters, the packed word read as 32-bit two's complement over 65536. -/
def decA (msb csb lsb : Byte) : Exact := ⟨(asm32 msb csb lsb).toInt, 65536⟩

/-- `DEC_T` (R113): degrees Celsius, `sint_8(TMSB) + TLSB / 256`. -/
def decT (tmsb tlsb : Byte) : Exact := ⟨tmsb.toInt * 256 + (tlsb.toNat : Int), 256⟩

/-- `SPLIT5` (R119): pressure from the first three bytes, temperature from the last two. -/
def split5 (b0 b1 b2 b3 b4 : Byte) : Exact × Exact := (decP b0 b1 b2, decT b3 b4)

end Sys2Proof.Machine
end

