-- ==== Sys2Proof/Machine/Samples.lean ====
section
/-! DEFINITION. The four sample layouts (30_encoding R89 to R95): each is the Decoded step (42_operations R167) on a
sample of that layout. No error can arise in it (60_exceptions R219). -/

namespace Sys2Proof.Machine

/-- The Decoded step runs on the sample in RAW, read by the layout of R162; on another there is no such step. -/
def State.decodeStep (s : State) (p : Place) (bytes : List Byte) (after : State) :
    Host.Outcome State Fault Refusal :=
  if s.sample = some (p, bytes) then .next after else .refused .outOfSequence

/-- The three slots of a record take their values (R32). -/
def State.setSlots (s : State) (k : ResKind) (t : Triple) : State :=
  { s with v0 := t.v0, v1 := t.v1, v2 := t.v2, resKind := k }

/-- Case `(0x02, 0)` of R167. -/
def State.deliverPressure (s : State) (m c l : Byte) : State :=
  (s.setSlots .pressure (convP (ofExact (decP m c l)))).finish

/-- Case `(0x03, 0)` of R167: `V2` is not written by this record and is unspecified (R32, 41_convert R136; log 4). -/
def State.deliverAltitude (s : State) (m c l : Byte) : State :=
  ({ s with
    v0 := (convA (ofExact (decA m c l))).1
    v1 := (convA (ofExact (decA m c l))).2
    v2 := s.openNum 2
    resKind := .altitude
    free := s.free + 1 } : State).finish

/-- Case `(0x04, 0)` of R167. -/
def State.deliverTemp (s : State) (m l : Byte) : State :=
  (s.setSlots .temp (convT (ofExact (decT m l)))).finish

/-- Case `(0x05, 0)` of R167: pressure and temperature are held and the second cycle begins, `BUSY` still 1. -/
def State.holdSample (s : State) (b0 b1 b2 b3 b4 : Byte) : State :=
  { s.dropRaw with
    hPmbar := (convP (ofExact (split5 b0 b1 b2 b3 b4).1)).v0
    hTc := ofExact (split5 b0 b1 b2 b3 b4).2
    phase := true
    sub := false
    st := .configWritten }

/-- Case `(0x05, 1)` of R167. -/
def State.deliverSlp (s : State) (m c l : Byte) : State :=
  (s.setSlots .slp (convSlp (slp s.hPmbar s.hTc (ofExact (decA m c l))))).finish

/-- S3_PRESSURE (40_decode R111, 42_operations R171). -/
def execS3Pressure (int : BitVec 18) (frac : BitVec 2) (low : BitVec 4) (s : State) :
    Host.Outcome State Fault Refusal :=
  let w : BitVec 24 := int ++ frac ++ low
  s.decodeStep .pressure (bytes24 w)
    (s.deliverPressure (w.extractLsb' 16 8) (w.extractLsb' 8 8) (w.extractLsb' 0 8))

/-- S3_ALTITUDE (40_decode R112): GET_ALTITUDE's result (42_operations R172), or cycle 1 of GET_SLP (R174, R179). -/
def execS3Altitude (sign : BitVec 1) (int : BitVec 15) (frac : BitVec 4) (low : BitVec 4) (s : State) :
    Host.Outcome State Fault Refusal :=
  let w : BitVec 24 := sign ++ int ++ frac ++ low
  s.decodeStep .altitude (bytes24 w)
    (if s.opc = 0x05#8 then s.deliverSlp (w.extractLsb' 16 8) (w.extractLsb' 8 8) (w.extractLsb' 0 8)
     else s.deliverAltitude (w.extractLsb' 16 8) (w.extractLsb' 8 8) (w.extractLsb' 0 8))

/-- S2_TEMPERATURE (40_decode R113, 42_operations R173). -/
def execS2Temperature (sign : BitVec 1) (int : BitVec 7) (frac : BitVec 4) (low : BitVec 4) (s : State) :
    Host.Outcome State Fault Refusal :=
  let w : BitVec 16 := sign ++ int ++ frac ++ low
  s.decodeStep .temperature (bytes16 w) (s.deliverTemp (w.extractLsb' 8 8) (w.extractLsb' 0 8))

/-- S5_PRESSURE_TEMPERATURE (40_decode R119): cycle 0 of GET_SLP (42_operations R174). -/
def execS5PressureTemperature (int : BitVec 18) (frac : BitVec 2) (low : BitVec 4)
    (tsign : BitVec 1) (tint : BitVec 7) (tfrac : BitVec 4) (tlow : BitVec 4) (s : State) :
    Host.Outcome State Fault Refusal :=
  let w : BitVec 40 := int ++ frac ++ low ++ tsign ++ tint ++ tfrac ++ tlow
  s.decodeStep .pressureTemperature (bytes40 w)
    (s.holdSample (w.extractLsb' 32 8) (w.extractLsb' 24 8) (w.extractLsb' 16 8) (w.extractLsb' 8 8)
      (w.extractLsb' 0 8))

end Sys2Proof.Machine
end

