-- ==== Sys2Proof/Machine/Dispatch.lean ====
section
/-! DEFINITION. One arm per row of the opcode table. -/

namespace Sys2Proof.Machine
open Sys2Proof

def exec (i : Instr) (s : State) : Host.Outcome State Fault Refusal :=
  match i with
  | .construct a => Sys2Proof.Machine.execConstruct a s
  | .getPressure a => Sys2Proof.Machine.execGetPressure a s
  | .getAltitude a => Sys2Proof.Machine.execGetAltitude a s
  | .getTemp a => Sys2Proof.Machine.execGetTemp a s
  | .getSlp a => Sys2Proof.Machine.execGetSlp a s
  | .standby a => Sys2Proof.Machine.execStandby a s
  | .illegal a op => Sys2Proof.Machine.execIllegal a op s
  | .rdWhoami d => Sys2Proof.Machine.execRdWhoami d s
  | .wrPtcfg d => Sys2Proof.Machine.execWrPtcfg d s
  | .wrCtrlBaro d => Sys2Proof.Machine.execWrCtrlBaro d s
  | .wrCtrlAlt d => Sys2Proof.Machine.execWrCtrlAlt d s
  | .wrCtrlStby d => Sys2Proof.Machine.execWrCtrlStby d s
  | .rdStatus d => Sys2Proof.Machine.execRdStatus d s
  | .rdP3 d => Sys2Proof.Machine.execRdP3 d s
  | .rdT2 d => Sys2Proof.Machine.execRdT2 d s
  | .rdPt5 d => Sys2Proof.Machine.execRdPt5 d s
  | .idMpl3115a2 => Sys2Proof.Machine.execIdMpl3115a2 s
  | .ptcfgEnable => Sys2Proof.Machine.execPtcfgEnable s
  | .ctrlBaroActive => Sys2Proof.Machine.execCtrlBaroActive s
  | .ctrlAltActive => Sys2Proof.Machine.execCtrlAltActive s
  | .ctrlStandby => Sys2Proof.Machine.execCtrlStandby s
  | .statusReady hi lo => Sys2Proof.Machine.execStatusReady hi lo s
  | .statusNotReady hi lo => Sys2Proof.Machine.execStatusNotReady hi lo s
  | .s3Pressure int frac low => Sys2Proof.Machine.execS3Pressure int frac low s
  | .s3Altitude sign int frac low => Sys2Proof.Machine.execS3Altitude sign int frac low s
  | .s2Temperature sign int frac low => Sys2Proof.Machine.execS2Temperature sign int frac low s
  | .s5PressureTemperature int frac low tsign tint tfrac tlow => Sys2Proof.Machine.execS5PressureTemperature int frac low tsign tint tfrac tlow s

end Sys2Proof.Machine
end

