-- ==== Sys2Proof/Machine/Program.lean ====
section
/-! DEFINITION. How a given row comes to be the very next one the block runs: the state of the sequencer in which it
issues that transaction, carries that byte or holds that sample, or the host presenting that command word (log 11). -/

namespace Sys2Proof.Machine

/-- The block in the middle of a command: constructed, busy, with no outcome yet (10_state R41). -/
def State.running (s : State) (d op : Byte) (st : SeqState) : State :=
  { s with
    devAddr := d
    identOk := true
    busy := true
    done := false
    st := st
    opc := op
    sub := false
    phase := false
    pollCnt := 0
    resKind := .none
    errKind := .none
    errCause := false
    errInfo := 0#8
    outstanding := none
    host := .rest :: s.host }

/-- As `running`, with an answer at hand for the transaction of the next step. -/
def State.runningWith (s : State) (d op : Byte) (st : SeqState) (bytes : List Byte) : State :=
  { s.running d op st with answers := .ok bytes :: s.answers }

/-- RAW with the bytes of a sample. -/
def rawOf (bytes : List Byte) : RawBuffer :=
  ⟨bytes.getD 0 0#8, bytes.getD 1 0#8, bytes.getD 2 0#8, bytes.getD 3 0#8, bytes.getD 4 0#8⟩

/-- The block before the Decoded step on a sample. -/
def State.holding (s : State) (op : Byte) (bytes : List Byte) : State :=
  { s.running s.devAddr op .decoded with raw := rawOf bytes }

/-- The host presents a command word to an idle block. -/
def State.presenting (s : State) (a op : Byte) : State :=
  { s with st := .idle, busy := false, host := .present (a ++ op) :: s.host }

/-- The state in which the next step runs `i`. -/
def State.prepare (s : State) (i : Instr) : State :=
  match i with
  | .construct a => s.presenting a 0x01#8
  | .getPressure a => s.presenting a 0x02#8
  | .getAltitude a => s.presenting a 0x03#8
  | .getTemp a => s.presenting a 0x04#8
  | .getSlp a => s.presenting a 0x05#8
  | .standby a => s.presenting a 0x06#8
  | .illegal a op => s.presenting a op
  | .rdWhoami d => { s.runningWith d 0x01#8 .single [0xC4#8] with identOk := false }
  | .wrPtcfg d => s.runningWith d 0x02#8 .configWritten []
  | .wrCtrlBaro d => { s.runningWith d 0x02#8 .configWritten [] with sub := true }
  | .wrCtrlAlt d => { s.runningWith d 0x03#8 .configWritten [] with sub := true }
  | .wrCtrlStby d => s.runningWith d 0x06#8 .single []
  | .rdStatus d => s.runningWith d 0x02#8 .polling [0x08#8]
  | .rdP3 d => s.runningWith d 0x02#8 .dataReady [0#8, 0#8, 0#8]
  | .rdT2 d => s.runningWith d 0x04#8 .dataReady [0#8, 0#8]
  | .rdPt5 d => s.runningWith d 0x05#8 .dataReady [0#8, 0#8, 0#8, 0#8, 0#8]
  | .idMpl3115a2 => { s.runningWith s.devAddr 0x01#8 .single [0xC4#8] with identOk := false }
  | .ptcfgEnable => s.runningWith s.devAddr 0x02#8 .configWritten []
  | .ctrlBaroActive => { s.runningWith s.devAddr 0x02#8 .configWritten [] with sub := true }
  | .ctrlAltActive => { s.runningWith s.devAddr 0x03#8 .configWritten [] with sub := true }
  | .ctrlStandby => s.runningWith s.devAddr 0x06#8 .single []
  | .statusReady hi lo => s.runningWith s.devAddr 0x02#8 .polling [hi ++ 1#1 ++ lo]
  | .statusNotReady hi lo => s.runningWith s.devAddr 0x02#8 .polling [hi ++ 0#1 ++ lo]
  | .s3Pressure int frac low => s.holding 0x02#8 (bytes24 (int ++ frac ++ low))
  | .s3Altitude sign int frac low => s.holding 0x03#8 (bytes24 (sign ++ int ++ frac ++ low))
  | .s2Temperature sign int frac low => s.holding 0x04#8 (bytes16 (sign ++ int ++ frac ++ low))
  | .s5PressureTemperature int frac low tsign tint tfrac tlow =>
      s.holding 0x05#8 (bytes40 (int ++ frac ++ low ++ tsign ++ tint ++ tfrac ++ tlow))

end Sys2Proof.Machine
end

