-- ==== Sys2Proof/Machine/Step.lean ====
section
/-! DEFINITION. One step of the machine: the host's turn, then one step of the block (10_state R20, R34). -/

namespace Sys2Proof.Machine

/-- One step of the block (R20): what stands next is fetched, decoded in its place and run; an idle block with no command
waits. -/
def blockStep (s : State) : Host.Outcome State Fault Refusal :=
  match s.fetch with
  | .nothing => .next s
  | .noRule => .fault .noSequencerRule
  | .word p bytes =>
    match decode p bytes with
    | .ok i => exec i s
    | .error _ => .refused .undecodable

/-- One step of the machine (log 1): the host acts; a reset takes the whole step (70 R230), else the block steps. -/
def step (s : State) : Host.Outcome State Fault Refusal :=
  if s.hostTurn.2 then .next s.hostTurn.1.resetStep else blockStep s.hostTurn.1

/-- The state in which the very next step runs the row whose numbered word is `w` (log 11). -/
def State.withFetchWord (s : State) (nbits w : Nat) : State :=
  match decodeTableWord nbits w with
  | some i => s.prepare i
  | none => s

end Sys2Proof.Machine
end

