-- ==== Sys2Proof/Machine/HostPort.lean ====
section
/-! DEFINITION. What the host reads between steps (10_state R38), the result record by command (R32, 30_encoding R98)
and the error codes (60_exceptions R207). -/

namespace Sys2Proof.Machine

/-- The code of `ERR_KIND` (R207). -/
def ErrKind.code : ErrKind → Nat
  | .none => 0
  | .identityMismatch => 1
  | .busError => 2
  | .acquisitionTimeout => 3
  | .illegalCommand => 4
  | .notConstructed => 5

/-- The host-readable registers (R38). -/
inductive HostReg where
  | devAddr
  | identOk
  | busy
  | done
  | st
  | resKind
  | v0
  | v1
  | v2
  | errKind
  | errCause
  | errInfo
  deriving DecidableEq, Repr

/-- What a host read gives; `unspecified` where the register holds no specified value (R32; V0..V2 alone). -/
inductive HostValue where
  | byte (b : Byte)
  | flag (b : Bool)
  | seq (st : SeqState)
  | kind (k : ResKind)
  | num (x : Binary64)
  | err (code : Nat)
  | unspecified
  deriving DecidableEq, Repr

/-- The slots a record specifies (R32): three, but for `Altitude` two and for `None` none. -/
def slotsOf : ResKind → Nat
  | .none => 0
  | .pressure => 3
  | .altitude => 2
  | .temp => 3
  | .slp => 3

/-- A slot is read only where its record specifies it (R21, R32). -/
def slotValue (k : ResKind) (i : Nat) (x : Binary64) : HostValue :=
  if i < slotsOf k then .num x else .unspecified

/-- One read function per register (R38). -/
def State.hostRead (s : State) : HostReg → HostValue
  | .devAddr => .byte s.devAddr
  | .identOk => .flag s.identOk
  | .busy => .flag s.busy
  | .done => .flag s.done
  | .st => .seq s.st
  | .resKind => .kind s.resKind
  | .v0 => slotValue s.resKind 0 s.v0
  | .v1 => slotValue s.resKind 1 s.v1
  | .v2 => slotValue s.resKind 2 s.v2
  | .errKind => .err s.errKind.code
  | .errCause => .flag s.errCause
  | .errInfo => .byte s.errInfo

/-- What the last command gave (R32, R33, R98): a record under its field names, no measurement, or an error. -/
inductive CommandOutcome where
  | pressure (mBar inHg psi : Binary64)
  | altitude (meters feet : Binary64)
  | temp (c f k : Binary64)
  | slp (mBar inHg psi : Binary64)
  | noMeasurement
  | error (kind : ErrKind) (cause : Bool) (info : Byte)
  deriving DecidableEq, Repr

/-- The record of a success (R32). -/
def State.record (s : State) : CommandOutcome :=
  match s.resKind with
  | .none => .noMeasurement
  | .pressure => .pressure s.v0 s.v1 s.v2
  | .altitude => .altitude s.v0 s.v1
  | .temp => .temp s.v0 s.v1 s.v2
  | .slp => .slp s.v0 s.v1 s.v2

/-- `RES` and `ERR` describe the last command only while `DONE = 1` (R38). -/
def State.lastOutcome (s : State) : Option CommandOutcome :=
  if s.done then
    if s.errKind = .none then some s.record else some (.error s.errKind s.errCause s.errInfo)
  else none

end Sys2Proof.Machine
end

