-- ==== Sys2Proof/Machine/SensorSpace.lean ====
section
/-! DEFINITION. The register map (20_memory R58), and the sensor's register space as far as the block's own writes fix it (10_state R40: what the block wrote
is known exactly; 42_operations R178, 60_exceptions R209): a list of cells in one canonical form, computed from the
trace. The block keeps no such copy and no step reads it (10_state R36); what the sensor answers is the environment's
(20_memory R66). -/

namespace Sys2Proof.Machine

/-- The register map (20_memory R58). -/
inductive SensorReg where
  | status
  | outPMsb
  | outPCsb
  | outPLsb
  | outTMsb
  | outTLsb
  | whoAmI
  | ptDataCfg
  | barInMsb
  | barInLsb
  | ctrlReg1
  deriving DecidableEq, Repr

/-- The addresses of R58. -/
def SensorReg.addr : SensorReg → Byte
  | .status => 0x00#8
  | .outPMsb => 0x01#8
  | .outPCsb => 0x02#8
  | .outPLsb => 0x03#8
  | .outTMsb => 0x04#8
  | .outTLsb => 0x05#8
  | .whoAmI => 0x0C#8
  | .ptDataCfg => 0x13#8
  | .barInMsb => 0x14#8
  | .barInLsb => 0x15#8
  | .ctrlReg1 => 0x26#8

/-- R58, column "Block reads". -/
def SensorReg.blockReads : SensorReg → Bool
  | .status => true
  | .outPMsb => true
  | .outPCsb => true
  | .outPLsb => true
  | .outTMsb => true
  | .outTLsb => true
  | .whoAmI => true
  | .ptDataCfg => false
  | .barInMsb => false
  | .barInLsb => false
  | .ctrlReg1 => false

/-- R58, column "Block writes". -/
def SensorReg.blockWrites : SensorReg → Bool
  | .status => false
  | .outPMsb => false
  | .outPCsb => false
  | .outPLsb => false
  | .outTMsb => false
  | .outTLsb => false
  | .whoAmI => false
  | .ptDataCfg => true
  | .barInMsb => false
  | .barInLsb => false
  | .ctrlReg1 => true

/-- The registers a transaction touches: one for a write (R51), `count` consecutive ones for a read (R52). -/
def Txn.registers : Txn → List Byte
  | .wr _ reg _ => [reg]
  | .rd _ reg count => (List.range count.toNat).map fun i => reg + BitVec.ofNat 8 i

/-- R58: a transaction touches registers of the map alone, in the direction the map gives them. -/
def Txn.mapped (t : Txn) : Prop :=
  ∀ r ∈ t.registers, ∃ m : SensorReg, m.addr = r ∧
    match t with
    | .wr _ _ _ => m.blockWrites = true
    | .rd _ _ _ => m.blockReads = true

/-- Bytes by address: addresses strictly rising. An unlisted address reads as nothing known, so every byte may be
listed. -/
abbrev Memory := List Host.Cell

/-- The canonical form. -/
def Memory.wf : Memory → Bool
  | [] => true
  | [_] => true
  | c :: d :: rest => decide (c.1 < d.1) && Memory.wf (d :: rest)

/-- The byte known to stand at an address, if one is. -/
def Memory.read (m : Memory) (addr : Nat) : Option Byte :=
  match m with
  | [] => none
  | c :: rest => if c.1 = addr then some c.2 else Memory.read rest addr

/-- The byte `b` has been stored at `addr`. -/
def Memory.write (m : Memory) (addr : Nat) (b : Byte) : Memory :=
  match m with
  | [] => [(addr, b)]
  | c :: rest =>
    if addr < c.1 then (addr, b) :: c :: rest
    else if c.1 = addr then (addr, b) :: rest
    else c :: Memory.write rest addr b

/-- Nothing is known any more of the byte at `addr`. -/
def Memory.forget (m : Memory) (addr : Nat) : Memory :=
  match m with
  | [] => []
  | c :: rest => if c.1 = addr then rest else c :: Memory.forget rest addr

/-- A register of a device as one address (20_memory R57: two byte-wide spaces). -/
def cellOf (dev reg : Byte) : Nat := dev.toNat * 256 + reg.toNat

/-- What one entry of the trace says of the sensor's registers: an acknowledged write stores its byte; a failed or
abandoned write leaves its register unknown (60 R209, 70 R230); a read says nothing. -/
def Memory.apply (m : Memory) (e : Exchange) : Memory :=
  match e with
  | .answered (.wr dev reg value) (.ok _) => m.write (cellOf dev reg) value
  | .answered (.wr dev reg _) .busError => m.forget (cellOf dev reg)
  | .abandoned (.wr dev reg _) => m.forget (cellOf dev reg)
  | .answered (.rd _ _ _) _ => m
  | .abandoned (.rd _ _ _) => m

/-- What the block's own writes leave in the sensors' registers (R178). -/
def State.written (s : State) : Memory := s.trace.foldl Memory.apply []

/-- The byte the block's own writes leave in register `reg` of device `dev`, if that is known. -/
def State.writtenByte (s : State) (dev reg : Byte) : Option Byte := s.written.read (cellOf dev reg)

end Sys2Proof.Machine
end

