-- ==== Sys2Proof/Safety.lean ====
section
/-! DEFINITION. What counts as a safe state and a safe run, in the terms the statements use: the invariants of 10_state
R41, the form of the numbers, the bus discipline (20_memory R56, R69; 30_encoding R84), and the lists of rows that
statements range over. -/

namespace Sys2Proof

/-- `n < POLL_MAX`, or no bound (00_scope R11). -/
def PollBound.allows (bound : PollBound) (n : Nat) : Bool :=
  match bound with
  | .inf => true
  | .reads m _ => decide (n < m)

/-- The exact value of a result of the unpacker. -/
def Exact.value (x : Exact) : ℚ := (x.num : ℚ) / (x.den : ℚ)

end Sys2Proof

namespace Sys2Proof.Machine

/-- The four acquisition commands (30_encoding R81). -/
def acquisitionOpcode (op : Byte) : Bool := 0x02#8 ≤ op && op ≤ 0x05#8

/-- The states of an acquisition cycle (42_operations, section 2). -/
def SeqState.inCycle : SeqState → Bool
  | .configWritten => true
  | .polling => true
  | .dataReady => true
  | .decoded => true
  | .idle => false
  | .single => false

/-- 10_state R41 (a) to (g), with three clauses more that 42_operations R161 gives (`Single` is entered by CONSTRUCT, which
clears `IDENT_OK`, and by STANDBY, which needs it, alone; DEDUCED, log 13). -/
structure State.Inv (s : State) : Prop where
  /-- (a) -/
  busy_iff : s.busy = true ↔ s.st ≠ .idle
  /-- (b) -/
  not_both : ¬ (s.busy = true ∧ s.done = true)
  /-- (c) -/
  result : s.resKind ≠ .none → s.done = true ∧ s.errKind = .none
  /-- (d) -/
  error : s.errKind ≠ .none → s.done = true ∧ s.resKind = .none
  /-- (e) -/
  cycle : s.st.inCycle = true → s.identOk = true ∧ acquisitionOpcode s.opc = true
  /-- (f) -/
  phase : s.phase = true → s.opc = 0x05#8
  /-- (g) -/
  budget : s.st = .polling → Config.pollMax.allows s.pollCnt = true
  single : s.st = .single → s.opc = 0x01#8 ∨ s.opc = 0x06#8
  construct : s.st = .single → s.opc = 0x01#8 → s.identOk = false
  standby : s.st = .single → s.opc = 0x06#8 → s.identOk = true

/-- The slots and the held values are numbers of the format (41_convert R131). -/
structure State.NumInv (s : State) : Prop where
  v0 : s.v0.canonical = true
  v1 : s.v1.canonical = true
  v2 : s.v2.canonical = true
  hPmbar : s.hPmbar.canonical = true
  hTc : s.hTc.canonical = true

/-- The outstanding transaction is the one the sequencer's state issues (20_memory R56). -/
def State.BusInv (s : State) : Prop := ∀ t, s.outstanding = some t → s.request = some t

/-- The transaction is one of the nine the block can issue (30_encoding R84), for some device. -/
def Txn.listed (t : Txn) : Bool :=
  match t with
  | .wr _ reg value =>
    (reg == 0x13#8 && value == 0x07#8) || (reg == 0x26#8 && value == 0x39#8) ||
    (reg == 0x26#8 && value == 0xB9#8) || (reg == 0x26#8 && value == 0x38#8)
  | .rd _ reg count =>
    (reg == 0x0C#8 && count == 1#8) || (reg == 0x00#8 && count == 1#8) || (reg == 0x01#8 && count == 3#8) ||
    (reg == 0x04#8 && count == 2#8) || (reg == 0x01#8 && count == 5#8)

/-- The device a transaction addresses. -/
def Txn.device : Txn → Byte
  | .wr dev _ _ => dev
  | .rd dev _ _ => dev

/-- The transaction of a trace entry. -/
def Exchange.txn : Exchange → Txn
  | .answered t _ => t
  | .abandoned t => t

/-- Every transaction of the trace is one the block can issue. -/
def State.TraceInv (s : State) : Prop := ∀ e ∈ s.trace, e.txn.listed = true

/-- The exact value of a number of the format (41_convert R130). -/
def numValue (x : Binary64) : ℚ := (numer x : ℚ) / (denom x : ℚ)

/-- The bytes of RAW in order (10_state R30). -/
def RawBuffer.list (r : RawBuffer) : List Byte := [r.b0, r.b1, r.b2, r.b3, r.b4]

/-- The entries a poll loop leaves in the trace (42_operations R165): one STATUS read of `d` for each byte. -/
def statusReads (d : Byte) (bytes : List Byte) : List Exchange :=
  bytes.map fun b => .answered (.rd d 0x00#8 1#8) (.ok [b])

/-- The environment's answers to a poll loop. -/
def statusAnswers (bytes : List Byte) : List Answer := bytes.map fun b => .ok [b]

/-- A run goes on: the step is no fault and no refusal. -/
def State.goesOn (s : State) : Prop := ∃ t, step s = .next t

/-- The rows of the command words that need a constructed block, with their opcodes. -/
def constructedCommands (a : Byte) : List (Instr × Byte) :=
  [(.getPressure a, 0x02#8), (.getAltitude a, 0x03#8), (.getTemp a, 0x04#8), (.getSlp a, 0x05#8), (.standby a, 0x06#8)]

/-- The rows of the acquisition commands, with their opcodes. -/
def acquisitionCommands (a : Byte) : List (Instr × Byte) :=
  [(.getPressure a, 0x02#8), (.getAltitude a, 0x03#8), (.getTemp a, 0x04#8), (.getSlp a, 0x05#8)]

/-- The rows of the transactions, with the transaction each is. -/
def transactionRows (d : Byte) : List (Instr × Txn) :=
  [(.rdWhoami d, .rd d 0x0C#8 1#8), (.wrPtcfg d, .wr d 0x13#8 0x07#8), (.wrCtrlBaro d, .wr d 0x26#8 0x39#8),
   (.wrCtrlAlt d, .wr d 0x26#8 0xB9#8), (.wrCtrlStby d, .wr d 0x26#8 0x38#8), (.rdStatus d, .rd d 0x00#8 1#8),
   (.rdP3 d, .rd d 0x01#8 3#8), (.rdT2 d, .rd d 0x04#8 2#8), (.rdPt5 d, .rd d 0x01#8 5#8)]

end Sys2Proof.Machine
end

