-- ==== Sys2Proof/Certificates/Slice0/Obligations.lean ====
section
/-! DEFINITION. The statements for the provers. Where the spec leaves a register open after a step, the statement says
that there is some value and nothing of which (log 4). The environment's answers to come, the outstanding transaction and
the trace are the model's fields for what 20_memory R54, R56 and 42_operations R177 speak of (log 2, 12). At a command's end OPC, SUB, PHASE and POLLCNT stand as they were, after
60_exceptions R206 "and nothing else" and 42_operations R167's `finish` (log 5). -/

open Sys2Proof Sys2Proof.Machine

/-! ### The accepting step -/

/-- 42_operations R170, R161 case 2: an idle block accepts CONSTRUCT, and every other register and the whole bus stay as
they are. Which value `V0..V2` take is left open (log 4); that the word leaves the port is the model's choice (log 1). -/
def Obligations.ConstructIsAccepted : Prop :=
  ∀ (a : Byte) (s : State), s.busy = false →
    ∃ x0 x1 x2 k, exec (.construct a) s = .next { s with
      devAddr := a, identOk := false, busy := true, done := false, st := .single, opc := 0x01#8
      sub := false, phase := false, pollCnt := 0
      resKind := .none, v0 := x0, v1 := x1, v2 := x2
      errKind := .none, errCause := false, errInfo := 0#8
      cmdPort := none, free := k }

/-- 42_operations R171 to R174, R161 case 5: a constructed idle block accepts the four acquisition commands, whatever
their operand. That the word leaves the port is the model's choice (log 1). -/
def Obligations.AcquisitionsAreAccepted : Prop :=
  ∀ (a : Byte) (s : State), s.busy = false → s.identOk = true → ∀ p ∈ acquisitionCommands a,
    ∃ x0 x1 x2 k, exec p.1 s = .next { s with
      busy := true, done := false, st := .configWritten, opc := p.2
      sub := false, phase := false, pollCnt := 0
      resKind := .none, v0 := x0, v1 := x1, v2 := x2
      errKind := .none, errCause := false, errInfo := 0#8
      cmdPort := none, free := k }

/-- 42_operations R175, R161 case 4: a constructed idle block accepts STANDBY. That the word leaves the port is the
model's choice (log 1). -/
def Obligations.StandbyIsAccepted : Prop :=
  ∀ (a : Byte) (s : State), s.busy = false → s.identOk = true →
    ∃ x0 x1 x2 k, exec (.standby a) s = .next { s with
      busy := true, done := false, st := .single, opc := 0x06#8
      sub := false, phase := false, pollCnt := 0
      resKind := .none, v0 := x0, v1 := x1, v2 := x2
      errKind := .none, errCause := false, errInfo := 0#8
      cmdPort := none, free := k }

/-- 60_exceptions R205, R206: an unconstructed idle block ends the five other commands at once with NotConstructed and no
transaction. What stands on the port after it is left open here (log 1). -/
def Obligations.UnconstructedBlockRefusesCommands : Prop :=
  ErrKind.notConstructed.code = 5 ∧
  ∀ (a : Byte) (s : State), s.busy = false → s.identOk = false → ∀ p ∈ constructedCommands a,
    ∃ x0 x1 x2 r hp ht k port, exec p.1 s = .next { s with
      busy := false, done := true, st := .idle, opc := p.2
      sub := false, phase := false, pollCnt := 0
      resKind := .none, v0 := x0, v1 := x1, v2 := x2
      errKind := .notConstructed, errCause := false, errInfo := p.2
      raw := r, hPmbar := hp, hTc := ht, cmdPort := port, free := k }

/-- 60_exceptions R204, R206: an idle block ends a word with an unnamed opcode at once with IllegalCommand and no
transaction, constructed or not (R208 a). What stands on the port after it is left open here (log 1). -/
def Obligations.IllegalCommandIsRefused : Prop :=
  ErrKind.illegalCommand.code = 4 ∧
  ∀ (a op : Byte) (s : State), (Instr.illegal a op).wellFormed = true → s.busy = false →
    ∃ x0 x1 x2 r hp ht k port, exec (.illegal a op) s = .next { s with
      busy := false, done := true, st := .idle, opc := op
      sub := false, phase := false, pollCnt := 0
      resKind := .none, v0 := x0, v1 := x1, v2 := x2
      errKind := .illegalCommand, errCause := false, errInfo := op
      raw := r, hPmbar := hp, hTc := ht, cmdPort := port, free := k }

/-- 42_operations R160: while BUSY = 1 a command word has no effect and stays pending. -/
def Obligations.BusyBlockAcceptsNothing : Prop :=
  ∀ (a op : Byte) (s : State), s.busy = true →
    (∀ p ∈ constructedCommands a, exec p.1 s = .next s) ∧
      exec (.construct a) s = .next s ∧ exec (.illegal a op) s = .next s

/-- 42_operations R161, the whole dispatch as the machine steps through it from the command port, with the effect of
`accept` (R160) and `raise` (60 R206) on every register they name. -/
def Obligations.DispatchOfAPresentedWord : Prop :=
  ∀ (s : State) (a op : Byte), s.host = [] → s.st = .idle → s.busy = false → s.cmdPort = some (a ++ op) →
    ∃ t, step s = .next t ∧
      t.opc = op ∧ t.resKind = .none ∧ t.sub = false ∧ t.phase = false ∧ t.pollCnt = 0 ∧
      t.trace = s.trace ∧ t.answers = s.answers ∧ t.outstanding = s.outstanding ∧ t.host = [] ∧
      (if namedOpcode op = false then
        t.errKind = .illegalCommand ∧ t.errCause = false ∧ t.errInfo = op ∧ t.st = .idle ∧ t.busy = false ∧
          t.done = true ∧ t.devAddr = s.devAddr ∧ t.identOk = s.identOk
      else if op = 0x01#8 then
        t.errKind = .none ∧ t.errCause = false ∧ t.errInfo = 0#8 ∧ t.st = .single ∧ t.busy = true ∧
          t.done = false ∧ t.devAddr = a ∧ t.identOk = false
      else if s.identOk = false then
        t.errKind = .notConstructed ∧ t.errCause = false ∧ t.errInfo = op ∧ t.st = .idle ∧ t.busy = false ∧
          t.done = true ∧ t.devAddr = s.devAddr ∧ t.identOk = false
      else
        t.errKind = .none ∧ t.errCause = false ∧ t.errInfo = 0#8 ∧
          t.st = (if op = 0x06#8 then SeqState.single else SeqState.configWritten) ∧ t.busy = true ∧
          t.done = false ∧ t.devAddr = s.devAddr ∧ t.identOk = true)

/-- 30_encoding R83: the operand byte of a command other than CONSTRUCT changes nothing. -/
def Obligations.OperandByteIsIgnored : Prop :=
  ∀ (s : State) (a b op : Byte), op ≠ 0x01#8 → s.host = [] → s.st = .idle → s.busy = false →
    step { s with cmdPort := some (a ++ op) } = step { s with cmdPort := some (b ++ op) }

/-! ### Transactions -/

/-- 42_operations R168 for CONSTRUCT, 60_exceptions R201: the identity read and its three outcomes. That OPC, SUB, PHASE and
POLLCNT stand as they were at the command's end is the model's (log 5). -/
def Obligations.IdentityReadDecidesConstruction : Prop :=
  ∀ (d : Byte) (s : State) (rest : List Answer), s.st = .single → s.opc = 0x01#8 → s.devAddr = d →
    (s.answers = .ok [0xC4#8] :: rest →
      ∃ r hp ht k, exec (.rdWhoami d) s = .next { s with
        identOk := true, busy := false, done := true, st := .idle
        answers := rest, outstanding := none
        trace := s.trace ++ [.answered (.rd d 0x0C#8 1#8) (.ok [0xC4#8])]
        raw := r, hPmbar := hp, hTc := ht, free := k }) ∧
    (∀ b, b ≠ 0xC4#8 → s.answers = .ok [b] :: rest →
      ∃ x0 x1 x2 r hp ht k, exec (.rdWhoami d) s = .next { s with
        busy := false, done := true, st := .idle
        resKind := .none, v0 := x0, v1 := x1, v2 := x2
        errKind := .identityMismatch, errCause := false, errInfo := b
        answers := rest, outstanding := none
        trace := s.trace ++ [.answered (.rd d 0x0C#8 1#8) (.ok [b])]
        raw := r, hPmbar := hp, hTc := ht, free := k }) ∧
    ((s.answers = .busError :: rest ∨ ∃ bytes, bytes.length ≠ 1 ∧ s.answers = .ok bytes :: rest) →
      ∃ x0 x1 x2 r hp ht k, exec (.rdWhoami d) s = .next { s with
        busy := false, done := true, st := .idle
        resKind := .none, v0 := x0, v1 := x1, v2 := x2
        errKind := .identityMismatch, errCause := true, errInfo := 0#8
        answers := rest, outstanding := none
        trace := s.trace ++ [.answered (.rd d 0x0C#8 1#8) .busError]
        raw := r, hPmbar := hp, hTc := ht, free := k })

/-- 42_operations R163: the first setup write. That an Ok answer to a write is Ok whatever bytes it carries is the model's
choice (log 14); that OPC, SUB, PHASE and POLLCNT stand as they were when the write fails is the model's (log 5). -/
def Obligations.FirstSetupWrite : Prop :=
  ∀ (d : Byte) (s : State) (rest : List Answer), s.st = .configWritten → s.sub = false → s.devAddr = d →
    (∀ bytes, s.answers = .ok bytes :: rest →
      exec (.wrPtcfg d) s = .next { s with
        sub := true
        answers := rest, outstanding := none
        trace := s.trace ++ [.answered (.wr d 0x13#8 0x07#8) (.ok [])] }) ∧
    (s.answers = .busError :: rest →
      ∃ x0 x1 x2 r hp ht k, exec (.wrPtcfg d) s = .next { s with
        busy := false, done := true, st := .idle
        resKind := .none, v0 := x0, v1 := x1, v2 := x2
        errKind := .busError, errCause := false, errInfo := 0x13#8
        answers := rest, outstanding := none
        trace := s.trace ++ [.answered (.wr d 0x13#8 0x07#8) .busError]
        raw := r, hPmbar := hp, hTc := ht, free := k })

/-- 42_operations R164 with R162: the second setup write, in the mode the command and cycle select. That an Ok answer to a
write is Ok whatever bytes it carries is the model's choice (log 14); that OPC, SUB, PHASE and POLLCNT stand as they were
when the write fails is the model's (log 5). -/
def Obligations.SecondSetupWrite : Prop :=
  ∀ (d pat : Byte) (i : Instr) (s : State) (rest : List Answer),
    s.st = .configWritten → s.sub = true → s.devAddr = d →
    (i = .wrCtrlBaro d ∧ pat = 0x39#8 ∧ s.phase = false ∧
        (s.opc = 0x02#8 ∨ s.opc = 0x04#8 ∨ s.opc = 0x05#8) ∨
      i = .wrCtrlAlt d ∧ pat = 0xB9#8 ∧ (s.opc = 0x03#8 ∧ s.phase = false ∨ s.opc = 0x05#8 ∧ s.phase = true)) →
    (∀ bytes, s.answers = .ok bytes :: rest →
      exec i s = .next { s with
        sub := false, pollCnt := 0, st := .polling
        answers := rest, outstanding := none
        trace := s.trace ++ [.answered (.wr d 0x26#8 pat) (.ok [])] }) ∧
    (s.answers = .busError :: rest →
      ∃ x0 x1 x2 r hp ht k, exec i s = .next { s with
        busy := false, done := true, st := .idle
        resKind := .none, v0 := x0, v1 := x1, v2 := x2
        errKind := .busError, errCause := false, errInfo := 0x26#8
        answers := rest, outstanding := none
        trace := s.trace ++ [.answered (.wr d 0x26#8 pat) .busError]
        raw := r, hPmbar := hp, hTc := ht, free := k })

/-- 42_operations R168 for STANDBY, R175: the standby write. That an Ok answer to a write is Ok whatever bytes it carries is
the model's choice (log 14); that OPC, SUB, PHASE and POLLCNT stand as they were at the command's end is the model's
(log 5). -/
def Obligations.StandbyWrite : Prop :=
  ∀ (d : Byte) (s : State) (rest : List Answer), s.st = .single → s.opc = 0x06#8 → s.devAddr = d →
    (∀ bytes, s.answers = .ok bytes :: rest →
      ∃ r hp ht k, exec (.wrCtrlStby d) s = .next { s with
        busy := false, done := true, st := .idle
        answers := rest, outstanding := none
        trace := s.trace ++ [.answered (.wr d 0x26#8 0x38#8) (.ok [])]
        raw := r, hPmbar := hp, hTc := ht, free := k }) ∧
    (s.answers = .busError :: rest →
      ∃ x0 x1 x2 r hp ht k, exec (.wrCtrlStby d) s = .next { s with
        busy := false, done := true, st := .idle
        resKind := .none, v0 := x0, v1 := x1, v2 := x2
        errKind := .busError, errCause := false, errInfo := 0x26#8
        answers := rest, outstanding := none
        trace := s.trace ++ [.answered (.wr d 0x26#8 0x38#8) .busError]
        raw := r, hPmbar := hp, hTc := ht, free := k })

/-- 42_operations R165, every branch in its order: bus failure, ready, budget spent, one more read. The second clause
says when the budget is spent. That OPC, SUB, PHASE and POLLCNT stand as they were when the command ends is the model's
(log 5). -/
def Obligations.PollStep : Prop :=
  (∀ (d : Byte) (s : State) (rest : List Answer), s.st = .polling → s.devAddr = d →
    (∀ b, b &&& 0x08#8 ≠ 0#8 → s.answers = .ok [b] :: rest →
      exec (.rdStatus d) s = .next { s with
        st := .dataReady
        answers := rest, outstanding := none
        trace := s.trace ++ [.answered (.rd d 0x00#8 1#8) (.ok [b])] }) ∧
    (∀ b, b &&& 0x08#8 = 0#8 → s.answers = .ok [b] :: rest →
      ∃ x0 x1 x2 r hp ht k, exec (.rdStatus d) s = .next
        (if budgetSpent Config.pollMax s.pollCnt then { s with
          busy := false, done := true, st := .idle
          resKind := .none, v0 := x0, v1 := x1, v2 := x2
          errKind := .acquisitionTimeout, errCause := false, errInfo := b
          answers := rest, outstanding := none
          trace := s.trace ++ [.answered (.rd d 0x00#8 1#8) (.ok [b])]
          raw := r, hPmbar := hp, hTc := ht, free := k }
        else { s with
          pollCnt := s.pollCnt + 1
          answers := rest, outstanding := none
          trace := s.trace ++ [.answered (.rd d 0x00#8 1#8) (.ok [b])] })) ∧
    ((s.answers = .busError :: rest ∨ ∃ bytes, bytes.length ≠ 1 ∧ s.answers = .ok bytes :: rest) →
      ∃ x0 x1 x2 r hp ht k, exec (.rdStatus d) s = .next { s with
        busy := false, done := true, st := .idle
        resKind := .none, v0 := x0, v1 := x1, v2 := x2
        errKind := .busError, errCause := false, errInfo := 0x00#8
        answers := rest, outstanding := none
        trace := s.trace ++ [.answered (.rd d 0x00#8 1#8) .busError]
        raw := r, hPmbar := hp, hTc := ht, free := k })) ∧
  (∀ (bound : PollBound) (n : Nat), budgetSpent bound n = true ↔ ∃ h, bound = .reads (n + 1) h)

/-- 42_operations R166 with R162: the burst read of each command and cycle. RAW beyond the burst is left open
(10_state R30). That OPC, SUB, PHASE and POLLCNT stand as they were when the read fails is the model's (log 5). -/
def Obligations.BurstRead : Prop :=
  ∀ (d start n : Byte) (i : Instr) (s : State) (rest : List Answer), s.st = .dataReady → s.devAddr = d →
    (i = .rdP3 d ∧ start = 0x01#8 ∧ n = 3#8 ∧
        ((s.opc = 0x02#8 ∨ s.opc = 0x03#8) ∧ s.phase = false ∨ s.opc = 0x05#8 ∧ s.phase = true) ∨
      i = .rdT2 d ∧ start = 0x04#8 ∧ n = 2#8 ∧ s.opc = 0x04#8 ∧ s.phase = false ∨
      i = .rdPt5 d ∧ start = 0x01#8 ∧ n = 5#8 ∧ s.opc = 0x05#8 ∧ s.phase = false) →
    (∀ bytes, bytes.length = n.toNat → s.answers = .ok bytes :: rest →
      ∃ r k, r.list.take n.toNat = bytes ∧ exec i s = .next { s with
        st := .decoded, raw := r
        answers := rest, outstanding := none
        trace := s.trace ++ [.answered (.rd d start n) (.ok bytes)]
        free := k }) ∧
    ((s.answers = .busError :: rest ∨ ∃ bytes, bytes.length ≠ n.toNat ∧ s.answers = .ok bytes :: rest) →
      ∃ x0 x1 x2 r hp ht k, exec i s = .next { s with
        busy := false, done := true, st := .idle
        resKind := .none, v0 := x0, v1 := x1, v2 := x2
        errKind := .busError, errCause := false, errInfo := start
        answers := rest, outstanding := none
        trace := s.trace ++ [.answered (.rd d start n) .busError]
        raw := r, hPmbar := hp, hTc := ht, free := k })

/-- 20_memory R56, 70 R245: a transaction that gets no answer leaves the block waiting, every register as it was. The
field that holds the transaction is the model's (log 2). -/
def Obligations.UnansweredTransactionWaits : Prop :=
  ∀ (d : Byte) (s : State), ∀ p ∈ transactionRows d, s.request = some p.2 →
    (s.answers = [] → exec p.1 s = .next { s with outstanding := some p.2 }) ∧
    (∀ rest, s.answers = .silent :: rest → exec p.1 s = .next { s with answers := rest, outstanding := some p.2 })

/-- 42_operations R176: there is no step with a transaction other than the one the sequencer issues; the model refuses by
name (log 10). -/
def Obligations.TransactionOutOfSequenceIsRefused : Prop :=
  ∀ (d : Byte) (s : State), ∀ p ∈ transactionRows d, s.request ≠ some p.2 → exec p.1 s = .refused .outOfSequence

/-- 30_encoding R85, 40_decode R115, R116, 42_operations R162: each byte pattern runs as the transaction that carries it
(the model's choice, log 10), for every command and cycle whose transaction carries it, and what it leads to; the write
patterns with an Ok answer (whatever bytes it carries, the model's choice, log 14) and with BusError. -/
def Obligations.PatternsRunTheirTransaction : Prop :=
  ∀ (s : State) (rest : List Answer),
    (s.st = .single → s.opc = 0x01#8 → s.answers = .ok [0xC4#8] :: rest →
      ∃ t, exec .idMpl3115a2 s = .next t ∧ exec (.rdWhoami s.devAddr) s = .next t ∧
        t.identOk = true ∧ t.st = .idle ∧ t.done = true) ∧
    (∀ i row reg, s.st = .configWritten →
      (i = .ptcfgEnable ∧ row = .wrPtcfg s.devAddr ∧ reg = 0x13#8 ∧ s.sub = false ∨
        i = .ctrlBaroActive ∧ row = .wrCtrlBaro s.devAddr ∧ reg = 0x26#8 ∧ s.sub = true ∧ s.phase = false ∧
          (s.opc = 0x02#8 ∨ s.opc = 0x04#8 ∨ s.opc = 0x05#8) ∨
        i = .ctrlAltActive ∧ row = .wrCtrlAlt s.devAddr ∧ reg = 0x26#8 ∧ s.sub = true ∧
          (s.opc = 0x03#8 ∧ s.phase = false ∨ s.opc = 0x05#8 ∧ s.phase = true)) →
      (∀ bytes, s.answers = .ok bytes :: rest →
        ∃ t, exec i s = .next t ∧ exec row s = .next t ∧ t.errKind = s.errKind ∧
          (if reg = 0x13#8 then t.st = .configWritten ∧ t.sub = true else t.st = .polling ∧ t.sub = false)) ∧
      (s.answers = .busError :: rest →
        ∃ t, exec i s = .next t ∧ exec row s = .next t ∧ t.st = .idle ∧ t.done = true ∧
          t.errKind = .busError ∧ t.errInfo = reg)) ∧
    (s.st = .single → s.opc = 0x06#8 →
      (∀ bytes, s.answers = .ok bytes :: rest →
        ∃ t, exec .ctrlStandby s = .next t ∧ exec (.wrCtrlStby s.devAddr) s = .next t ∧
          t.st = .idle ∧ t.done = true ∧ t.errKind = s.errKind) ∧
      (s.answers = .busError :: rest →
        ∃ t, exec .ctrlStandby s = .next t ∧ exec (.wrCtrlStby s.devAddr) s = .next t ∧ t.st = .idle ∧
          t.done = true ∧ t.errKind = .busError ∧ t.errInfo = 0x26#8)) ∧
    (∀ hi lo, s.st = .polling → s.answers = .ok [hi ++ 1#1 ++ lo] :: rest →
      ∃ t, exec (.statusReady hi lo) s = .next t ∧ exec (.rdStatus s.devAddr) s = .next t ∧ t.st = .dataReady) ∧
    (∀ hi lo, s.st = .polling → s.answers = .ok [hi ++ 0#1 ++ lo] :: rest →
      ∃ t, exec (.statusNotReady hi lo) s = .next t ∧ exec (.rdStatus s.devAddr) s = .next t ∧
        t.st ≠ .dataReady)

/-! ### Samples -/

/-- 42_operations R167 case (0x02, 0), 41_convert R135: the pressure record. That OPC, SUB, PHASE and POLLCNT stand as they
were after `finish` is the model's (log 5). -/
def Obligations.PressureSampleIsDelivered : Prop :=
  ∀ (int : BitVec 18) (frac : BitVec 2) (low : BitVec 4) (s : State),
    s.st = .decoded → s.opc = 0x02#8 → s.phase = false →
    encode (.s3Pressure int frac low) = [s.raw.b0, s.raw.b1, s.raw.b2] →
    ∃ r hp ht k, exec (.s3Pressure int frac low) s = .next { s with
      busy := false, done := true, st := .idle, resKind := .pressure
      v0 := numDiv (ofExact (decP s.raw.b0 s.raw.b1 s.raw.b2)) (lit 100 1)
      v1 := numDiv (ofExact (decP s.raw.b0 s.raw.b1 s.raw.b2)) (lit 3386 1)
      v2 := numDiv (ofExact (decP s.raw.b0 s.raw.b1 s.raw.b2)) (lit 6895 1)
      raw := r, hPmbar := hp, hTc := ht, free := k }

/-- 42_operations R167 case (0x03, 0), 41_convert R136: the altitude record; `V2` is left open. That OPC, SUB, PHASE and
POLLCNT stand as they were after `finish` is the model's (log 5). -/
def Obligations.AltitudeSampleIsDelivered : Prop :=
  ∀ (sign : BitVec 1) (int : BitVec 15) (frac : BitVec 4) (low : BitVec 4) (s : State),
    s.st = .decoded → s.opc = 0x03#8 → s.phase = false →
    encode (.s3Altitude sign int frac low) = [s.raw.b0, s.raw.b1, s.raw.b2] →
    ∃ x r hp ht k, exec (.s3Altitude sign int frac low) s = .next { s with
      busy := false, done := true, st := .idle, resKind := .altitude
      v0 := ofExact (decA s.raw.b0 s.raw.b1 s.raw.b2)
      v1 := numMul (ofExact (decA s.raw.b0 s.raw.b1 s.raw.b2)) (lit 3281 1000)
      v2 := x
      raw := r, hPmbar := hp, hTc := ht, free := k }

/-- 42_operations R167 case (0x05, 1), 41_convert R138, R139: the sea-level-pressure record from the held values and
this cycle's altitude. That the result of EXP is rounded into the format is the model's choice (log 7), and that OPC, SUB,
PHASE and POLLCNT stand as they were after `finish` is the model's (log 5). -/
def Obligations.SeaLevelPressureIsDelivered : Prop :=
  ∀ (sign : BitVec 1) (int : BitVec 15) (frac : BitVec 4) (low : BitVec 4) (s : State),
    s.st = .decoded → s.opc = 0x05#8 → s.phase = true →
    encode (.s3Altitude sign int frac low) = [s.raw.b0, s.raw.b1, s.raw.b2] →
    ∃ p r hp ht k,
      p = numMul s.hPmbar (numExp (numDiv
        (numMul (lit 980665 100000) (ofExact (decA s.raw.b0 s.raw.b1 s.raw.b2)))
        (numMul (lit 28705 100) (numAdd s.hTc (lit 27315 100))))) ∧
      exec (.s3Altitude sign int frac low) s = .next { s with
        busy := false, done := true, st := .idle, resKind := .slp
        v0 := p, v1 := numDiv p (lit 33864 1000), v2 := numDiv p (lit 68948 1000)
        raw := r, hPmbar := hp, hTc := ht, free := k }

/-- 42_operations R167 case (0x04, 0), 41_convert R137: the temperature record. That OPC, SUB, PHASE and POLLCNT stand as
they were after `finish` is the model's (log 5). -/
def Obligations.TemperatureSampleIsDelivered : Prop :=
  ∀ (sign : BitVec 1) (int : BitVec 7) (frac : BitVec 4) (low : BitVec 4) (s : State),
    s.st = .decoded → s.opc = 0x04#8 → s.phase = false →
    encode (.s2Temperature sign int frac low) = [s.raw.b0, s.raw.b1] →
    ∃ r hp ht k, exec (.s2Temperature sign int frac low) s = .next { s with
      busy := false, done := true, st := .idle, resKind := .temp
      v0 := ofExact (decT s.raw.b0 s.raw.b1)
      v1 := numAdd (numDiv (numMul (ofExact (decT s.raw.b0 s.raw.b1)) (lit 9 1)) (lit 5 1)) (lit 32 1)
      v2 := numAdd (ofExact (decT s.raw.b0 s.raw.b1)) (lit 27315 100)
      raw := r, hPmbar := hp, hTc := ht, free := k }

/-- 42_operations R167 case (0x05, 0): cycle 0 of GET_SLP holds pressure and temperature and begins cycle 1 with BUSY
still as it was. -/
def Obligations.FirstCycleOfSlpHoldsItsSample : Prop :=
  ∀ (int : BitVec 18) (frac : BitVec 2) (low : BitVec 4) (tsign : BitVec 1) (tint : BitVec 7) (tfrac tlow : BitVec 4)
    (s : State), s.st = .decoded → s.opc = 0x05#8 → s.phase = false →
    encode (.s5PressureTemperature int frac low tsign tint tfrac tlow) = s.raw.list →
    ∃ r k, exec (.s5PressureTemperature int frac low tsign tint tfrac tlow) s = .next { s with
      st := .configWritten, sub := false, phase := true
      hPmbar := numDiv (ofExact (decP s.raw.b0 s.raw.b1 s.raw.b2)) (lit 100 1)
      hTc := ofExact (decT s.raw.b3 s.raw.b4)
      raw := r, free := k }

/-! ### The step -/

/-- 10_state R20, R26, R34; 42_operations R160: a step is the host's turn and then the instruction that the word at hand
decodes to. The host's turn puts a word on the command port, takes it away, leaves it, or asserts reset, which takes the
whole step, and it touches nothing else but its own list. That the host acts once before each step is the model's choice
(log 1). -/
def Obligations.StepRunsTheDecodedInstruction : Prop :=
  ∀ s : State,
    (s.host = [] → s.hostTurn = (s, false)) ∧
    (∀ later, s.host = .rest :: later → s.hostTurn = ({ s with host := later }, false)) ∧
    (∀ cw later, s.host = .present cw :: later → s.hostTurn = ({ s with host := later, cmdPort := some cw }, false)) ∧
    (∀ later, s.host = .withdraw :: later → s.hostTurn = ({ s with host := later, cmdPort := none }, false)) ∧
    (∀ later, s.host = .reset :: later → s.hostTurn = ({ s with host := later }, true)) ∧
    (s.hostTurn.2 = true → step s = .next s.hostTurn.1.resetStep) ∧
    (s.hostTurn.2 = false → s.hostTurn.1.fetch = .nothing → step s = .next s.hostTurn.1) ∧
    (∀ p bytes i, s.hostTurn.2 = false → s.hostTurn.1.fetch = .word p bytes → decode p bytes = .ok i →
      step s = exec i s.hostTurn.1)

/-- 42_operations R162: the table of cycle parameters, as the second setup write, the burst and the sample show it. -/
def Obligations.CycleTableIsFollowed : Prop :=
  ∀ (opc ctrl start n : Byte) (phase : Bool) (layout : Place),
    (opc, phase, ctrl, start, n, layout) ∈
      [(0x02#8, false, 0x39#8, 0x01#8, 3#8, Place.pressure), (0x03#8, false, 0xB9#8, 0x01#8, 3#8, Place.altitude),
       (0x04#8, false, 0x39#8, 0x04#8, 2#8, Place.temperature),
       (0x05#8, false, 0x39#8, 0x01#8, 5#8, Place.pressureTemperature),
       (0x05#8, true, 0xB9#8, 0x01#8, 3#8, Place.altitude)] →
    ∀ s : State, s.opc = opc → s.phase = phase →
      (s.st = .configWritten → s.sub = true → s.fetch = .word .writeTxn [s.devAddr, 0x26#8, ctrl]) ∧
      (s.st = .dataReady → s.fetch = .word .readTxn [s.devAddr, start, n]) ∧
      (s.st = .decoded → s.fetch = .word layout (s.raw.list.take n.toNat))

/-- 70 R230, R232: reset, asserted at any time, is one step that puts the registers at the values 10_state R39 states,
records no error and issues no transaction. A transaction it cuts off is marked so in the trace, and the port and the
answers to come stay: the model's choice (log 15). -/
def Obligations.ResetTakesOneStep : Prop :=
  ∀ (s : State) (later : List HostAction), s.host = .reset :: later →
    ∃ t, step s = .next t ∧
      t.st = .idle ∧ t.busy = false ∧ t.done = false ∧ t.identOk = false ∧ t.resKind = .none ∧ t.errKind = .none ∧
      t.errCause = false ∧ t.errInfo = 0#8 ∧ t.sub = false ∧ t.phase = false ∧ t.pollCnt = 0 ∧
      t.host = later ∧ t.cmdPort = s.cmdPort ∧ t.answers = s.answers ∧ t.outstanding = none ∧
      t.trace = s.trace ++ (match s.outstanding with | none => [] | some x => [Exchange.abandoned x])

/-! ### Words -/

/-- Words written out from 30_encoding R80, R84, R85, R91 and the table, one of every family. -/
def Obligations.WrittenWordsDecode : Prop :=
  decode .command [0x60#8, 0x01#8] = .ok (.construct 0x60#8) ∧
  decode .command [0x12#8, 0xFF#8] = .ok (.illegal 0x12#8 0xFF#8) ∧
  decode .writeTxn [0x60#8, 0x26#8, 0xB9#8] = .ok (.wrCtrlAlt 0x60#8) ∧
  decode .readTxn [0x60#8, 0x04#8, 0x02#8] = .ok (.rdT2 0x60#8) ∧
  decode .writeTxn [0x60#8, 0x26#8, 0x3A#8] = .error .noSuchTransaction ∧
  decode .status [0x5E#8] = .ok (.statusReady 0b0101#4 0b110#3) ∧
  decode .whoAmI [0xC5#8] = .error .noSuchPattern ∧
  decode .altitude [0xFF#8, 0x9C#8, 0x35#8] = .ok (.s3Altitude 1#1 0x7F9C#15 3#4 5#4) ∧
  decode .pressureTemperature [0x62#8, 0xF3#8, 0x40#8, 0xEC#8, 0x80#8] =
    .ok (.s5PressureTemperature 0x18BCD#18 0#2 0#4 1#1 0x6C#7 8#4 0#4)

/-- Decode and encode agree on every well-formed instruction. -/
def Obligations.DecodeOfEncodeIsTheInstruction : Prop :=
  ∀ i : Instr, i.wellFormed = true → decode i.place (encode i) = .ok i

/-- Each word has one reading in its place: what decodes is well formed, stands in that place, and encodes back. -/
def Obligations.EncodeOfDecodeIsTheWord : Prop :=
  ∀ (p : Place) (bytes : List Byte) (i : Instr), decode p bytes = .ok i →
    i.wellFormed = true ∧ i.place = p ∧ encode i = bytes

/-- 30_encoding R84, 20_memory R57, R58: every transaction the sequencer can issue is one of the nine rows, addressed to
DEV_ADDR, it decodes to its row, and it touches registers of the map alone, in the direction the map gives them. -/
def Obligations.OnlyListedTransactionsAreIssued : Prop :=
  ∀ (s : State) (t : Txn), s.request = some t →
    t.device = s.devAddr ∧ t.mapped ∧
      ∃ p ∈ transactionRows s.devAddr, p.2 = t ∧ decode t.place t.bytes = .ok p.1

/-! ### Invariants and whole-machine rules -/

/-- 10_state R41: every step keeps the invariants, from every state that has them. -/
def Obligations.StepKeepsTheInvariants : Prop :=
  ∀ s t : State, s.Inv → step s = .next t → t.Inv

/-- 10_state R39, R41: the invariants hold after reset, with the registers the spec gives values at them, nothing issued
and the host reading "no command yet" (R25). -/
def Obligations.ResetHasTheInvariants : Prop :=
  State.reset.Inv ∧ State.reset.NumInv ∧ State.reset.BusInv ∧ State.reset.TraceInv ∧
    State.reset.st = .idle ∧ State.reset.busy = false ∧ State.reset.done = false ∧ State.reset.identOk = false ∧
    State.reset.resKind = .none ∧ State.reset.errKind = .none ∧ State.reset.errCause = false ∧
    State.reset.errInfo = 0#8 ∧ State.reset.sub = false ∧ State.reset.phase = false ∧ State.reset.pollCnt = 0 ∧
    State.reset.trace = [] ∧ State.reset.lastOutcome = none

/-- 42_operations R176, 60_exceptions R200: from every state with the invariants the machine goes on: no fault, no
refusal, whatever the environment answers and the host does. -/
def Obligations.EveryStepGoesOn : Prop :=
  ∀ s : State, s.Inv → s.goesOn

/-- 41_convert R131: the slots and the held values are numbers of the format in every state a step leads to. -/
def Obligations.StepKeepsTheNumbers : Prop :=
  ∀ s t : State, s.NumInv → step s = .next t → t.NumInv

/-- 20_memory R56, 30_encoding R84: at most one transaction is outstanding, and it is the one the sequencer's state issues;
the trace holds listed transactions only. Every step keeps both. The two fields are the model's (log 2, 12). -/
def Obligations.StepKeepsTheBusDiscipline : Prop :=
  ∀ s t : State, s.BusInv → step s = .next t → t.BusInv ∧ (s.TraceInv → t.TraceInv)

/-- 20_memory R56, R69; 42_operations R176: one step issues at most one transaction, the sequencer's own, and the trace
only grows; a reset issues none. -/
def Obligations.OneTransactionAStep : Prop :=
  ∀ s t : State, step s = .next t →
    (s.hostTurn.2 = false →
      t.trace = s.trace ∨ ∃ x r, s.request = some x ∧ t.trace = s.trace ++ [.answered x r]) ∧
    (s.hostTurn.2 = true → t.trace = s.trace ++ (match s.outstanding with | none => [] | some x => [Exchange.abandoned x]))

/-- 10_state R22: only CONSTRUCT (and reset, which leaves the register unspecified, R39) writes DEV_ADDR. -/
def Obligations.OnlyConstructWritesDevAddr : Prop :=
  ∀ s t : State, step s = .next t → t.devAddr ≠ s.devAddr →
    s.hostTurn.2 = true ∨
      (s.st = .idle ∧ s.busy = false ∧ t.opc = 0x01#8 ∧ t.st = .single ∧ t.identOk = false ∧
        s.hostTurn.1.cmdPort = some (t.devAddr ++ 0x01#8))

/-- 10_state R23: IDENT_OK rises only in the step in which CONSTRUCT's identity read at DEV_ADDR is answered with 0xC4, and
falls only when a CONSTRUCT is accepted or by reset. -/
def Obligations.IdentOkFollowsTheIdentityRead : Prop :=
  ∀ s t : State, step s = .next t →
    (s.identOk = false → t.identOk = true →
      s.st = .single ∧ s.opc = 0x01#8 ∧
        t.trace = s.trace ++ [.answered (.rd s.devAddr 0x0C#8 1#8) (.ok [0xC4#8])] ∧ t.errKind = s.errKind) ∧
    (s.identOk = true → t.identOk = false →
      s.hostTurn.2 = true ∨ (s.st = .idle ∧ t.opc = 0x01#8 ∧ t.st = .single))

/-- 20_memory R69, 70 R242: the sequencer comes to the burst read only by a STATUS read answered with bit 3 set, and to
polling only by the second setup write answered Ok. -/
def Obligations.BurstComesOnlyAfterReady : Prop :=
  ∀ s t : State, step s = .next t →
    (t.st = .dataReady → s.st ≠ .dataReady →
      s.st = .polling ∧ ∃ b, b &&& 0x08#8 ≠ 0#8 ∧
        t.trace = s.trace ++ [.answered (.rd s.devAddr 0x00#8 1#8) (.ok [b])]) ∧
    (t.st = .polling → s.st ≠ .polling →
      s.st = .configWritten ∧ s.sub = true ∧ t.pollCnt = 0 ∧
        ∃ c, s.cycle = some c ∧ t.trace = s.trace ++ [.answered (.wr s.devAddr 0x26#8 c.ctrlPat) (.ok [])])

/-- 10_state R32: a record is written only by the final Decoded step of its own command. -/
def Obligations.ResultsComeFromTheFinalDecodedStep : Prop :=
  ∀ s t : State, step s = .next t → s.resKind = .none → t.resKind ≠ .none →
    s.st = .decoded ∧ t.st = .idle ∧ t.done = true ∧ t.trace = s.trace ∧
      (t.resKind = .pressure ∧ s.opc = 0x02#8 ∨ t.resKind = .altitude ∧ s.opc = 0x03#8 ∨
        t.resKind = .temp ∧ s.opc = 0x04#8 ∨ t.resKind = .slp ∧ s.opc = 0x05#8 ∧ s.phase = true)

/-- 10_state R32, 70 R246, 60_exceptions R210: while the block is idle, result and error stay exactly as they are until
the next command is accepted or reset comes. -/
def Obligations.OutcomeLastsUntilTheNextCommand : Prop :=
  ∀ s t : State, s.Inv → s.st = .idle → step s = .next t →
    (t.resKind = s.resKind ∧ t.v0 = s.v0 ∧ t.v1 = s.v1 ∧ t.v2 = s.v2 ∧ t.errKind = s.errKind ∧
      t.errCause = s.errCause ∧ t.errInfo = s.errInfo ∧ t.done = s.done) ∨
    (s.hostTurn.2 = false ∧ ∃ a op : Byte, s.hostTurn.1.cmdPort = some (a ++ op) ∧ t.opc = op ∧ t.resKind = .none) ∨
    s.hostTurn.2 = true

/-- 60_exceptions R200, R206, R207: after a step the block holds an error only if it stood idle with that error and did
nothing, or the step detected it: then the command is over with no result, and the error is that step's own, with the
code's cause and detail, IDENT_OK and DEV_ADDR as R206 leaves them, and the transaction that failed at the end of the
trace (the model's field, log 12). -/
def Obligations.ErrorsComeFromTheirSteps : Prop :=
  ∀ s t : State, s.Inv → step s = .next t → t.errKind ≠ .none →
    (s.st = .idle ∧ t = s.hostTurn.1) ∨
    (t.st = .idle ∧ t.busy = false ∧ t.done = true ∧ t.resKind = .none ∧ t.identOk = s.identOk ∧ t.devAddr = s.devAddr ∧
    (t.errKind = .identityMismatch → s.st = .single ∧ s.opc = 0x01#8 ∧ t.identOk = false ∧
      (t.errCause = true ∧ t.errInfo = 0#8 ∧
          t.trace = s.trace ++ [.answered (.rd s.devAddr 0x0C#8 1#8) .busError] ∨
        t.errCause = false ∧ t.errInfo ≠ 0xC4#8 ∧
          t.trace = s.trace ++ [.answered (.rd s.devAddr 0x0C#8 1#8) (.ok [t.errInfo])])) ∧
    (t.errKind = .busError → t.errCause = false ∧
      ∃ x, s.request = some x ∧ t.trace = s.trace ++ [.answered x .busError] ∧
        (x = .wr s.devAddr 0x13#8 0x07#8 ∧ t.errInfo = 0x13#8 ∨ (∃ v, x = .wr s.devAddr 0x26#8 v) ∧ t.errInfo = 0x26#8 ∨
          ∃ reg n, x = .rd s.devAddr reg n ∧ t.errInfo = reg)) ∧
    (t.errKind = .acquisitionTimeout → s.st = .polling ∧ t.errCause = false ∧ t.errInfo &&& 0x08#8 = 0#8 ∧
      budgetSpent Config.pollMax s.pollCnt = true ∧
      t.trace = s.trace ++ [.answered (.rd s.devAddr 0x00#8 1#8) (.ok [t.errInfo])]) ∧
    (t.errKind = .illegalCommand → s.st = .idle ∧ t.errCause = false ∧ namedOpcode t.errInfo = false ∧
      (∃ a : Byte, s.hostTurn.1.cmdPort = some (a ++ t.errInfo)) ∧ t.trace = s.trace) ∧
    (t.errKind = .notConstructed → s.st = .idle ∧ t.errCause = false ∧ t.identOk = false ∧ namedOpcode t.errInfo = true ∧
      t.errInfo ≠ 0x01#8 ∧ (∃ a : Byte, s.hostTurn.1.cmdPort = some (a ++ t.errInfo)) ∧ t.trace = s.trace))

/-- 42_operations R160, 20_memory R72: while a command is in progress the word on the port is neither taken nor looked at.
After the step it is what the host left there, and OPC and DEV_ADDR are as they were; with any other word on the port, or
none, the step leads to the same state but for the port; and so it does whether the host presents a word before the step,
withdraws it, or rests (the host's acts: log 1). -/
def Obligations.CommandInProgressIsNotDisturbed : Prop :=
  ∀ s : State, s.Inv → s.busy = true →
    (∀ t, s.hostTurn.2 = false → step s = .next t →
      t.cmdPort = s.hostTurn.1.cmdPort ∧ t.opc = s.opc ∧ t.devAddr = s.devAddr) ∧
    (∀ port t, step s = .next t → ∃ port', step { s with cmdPort := port } = .next { t with cmdPort := port' }) ∧
    (∀ cw later t, step { s with host := .rest :: later } = .next t →
      step { s with host := .present cw :: later } = .next { t with cmdPort := some cw } ∧
      step { s with host := .withdraw :: later } = .next { t with cmdPort := none })

/-- 10_state R38, R32, R21; 60_exceptions R207: what the host reads. Every host-visible register reads as it stands, with
the codes of ERR_KIND; the slots read as the record specifies them, `V2` of Altitude and every slot without a record as
unspecified; while a command is in progress there is no result, no error and no outcome yet; and from DONE on the outcome
is the error, the record, or that nothing was measured. -/
def Obligations.HostReadsShowTheOutcome : Prop :=
  (ErrKind.none.code = 0 ∧ ErrKind.identityMismatch.code = 1 ∧ ErrKind.busError.code = 2 ∧
    ErrKind.acquisitionTimeout.code = 3 ∧ ErrKind.illegalCommand.code = 4 ∧ ErrKind.notConstructed.code = 5) ∧
  ∀ s : State, s.Inv →
    (s.hostRead .devAddr = .byte s.devAddr ∧ s.hostRead .identOk = .flag s.identOk ∧ s.hostRead .busy = .flag s.busy ∧
      s.hostRead .done = .flag s.done ∧ s.hostRead .st = .seq s.st ∧ s.hostRead .resKind = .kind s.resKind ∧
      s.hostRead .errKind = .err s.errKind.code ∧ s.hostRead .errCause = .flag s.errCause ∧
      s.hostRead .errInfo = .byte s.errInfo) ∧
    (s.busy = true → s.hostRead .resKind = .kind .none ∧ s.hostRead .errKind = .err 0 ∧
      s.hostRead .done = .flag false ∧ s.lastOutcome = none) ∧
    (s.done = false → s.lastOutcome = none) ∧
    (s.resKind = .none →
      s.hostRead .v0 = .unspecified ∧ s.hostRead .v1 = .unspecified ∧ s.hostRead .v2 = .unspecified) ∧
    (s.resKind ≠ .none → s.hostRead .errKind = .err 0 ∧ s.hostRead .done = .flag true ∧
      s.hostRead .v0 = .num s.v0 ∧ s.hostRead .v1 = .num s.v1 ∧
      s.hostRead .v2 = (if s.resKind = .altitude then .unspecified else .num s.v2)) ∧
    (s.resKind = .pressure → s.lastOutcome = some (.pressure s.v0 s.v1 s.v2)) ∧
    (s.resKind = .altitude → s.lastOutcome = some (.altitude s.v0 s.v1)) ∧
    (s.resKind = .temp → s.lastOutcome = some (.temp s.v0 s.v1 s.v2)) ∧
    (s.resKind = .slp → s.lastOutcome = some (.slp s.v0 s.v1 s.v2)) ∧
    (s.errKind ≠ .none → s.lastOutcome = some (.error s.errKind s.errCause s.errInfo)) ∧
    (s.done = true → s.errKind = .none → s.resKind = .none → s.lastOutcome = some .noMeasurement)

/-! ### Whole commands -/

/-- 42_operations R170, R175, R177, R178: CONSTRUCT and STANDBY from the command port take two steps and one transaction.
IDENT_OK says whether the byte was 0xC4, and CONSTRUCT leaves every register of the sensors as it was; STANDBY leaves
CTRL_REG1 = 0x38. The account of written bytes is the model's choice (log 12), and so is that an Ok answer to a write is Ok
whatever bytes it carries (log 14). -/
def Obligations.ConstructAndStandbyRun : Prop :=
  ∀ (s : State) (a : Byte) (rest : List Answer), s.host = [] → s.st = .idle → s.busy = false →
    (∀ b, s.cmdPort = some (a ++ 0x01#8) → s.answers = .ok [b] :: rest →
      ∃ t, Host.Core.run core 2 s = .next t ∧ t.st = .idle ∧ t.busy = false ∧ t.done = true ∧ t.devAddr = a ∧
        t.resKind = .none ∧ t.answers = rest ∧
        t.trace = s.trace ++ [.answered (.rd a 0x0C#8 1#8) (.ok [b])] ∧
        (∀ d reg, t.writtenByte d reg = s.writtenByte d reg) ∧
        (if b = 0xC4#8 then t.identOk = true ∧ t.lastOutcome = some .noMeasurement
         else t.identOk = false ∧ t.lastOutcome = some (.error .identityMismatch false b))) ∧
    (∀ bytes, s.identOk = true → s.cmdPort = some (a ++ 0x06#8) → s.answers = .ok bytes :: rest →
      ∃ t, Host.Core.run core 2 s = .next t ∧ t.st = .idle ∧ t.busy = false ∧ t.devAddr = s.devAddr ∧
        t.identOk = true ∧ t.lastOutcome = some .noMeasurement ∧ t.answers = rest ∧
        t.trace = s.trace ++ [.answered (.wr s.devAddr 0x26#8 0x38#8) (.ok [])] ∧
        t.writtenByte s.devAddr 0x26#8 = some 0x38#8)

/-- 42_operations R165: the poll loop goes on after exactly as many reads as it takes to see bit 3, within the budget. -/
def Obligations.PollLoopEndsWhenReady : Prop :=
  ∀ (s : State) (clear : List Byte) (b : Byte) (rest : List Answer),
    s.host = [] → s.st = .polling → s.pollCnt = 0 →
    (∀ x ∈ clear, x &&& 0x08#8 = 0#8) → b &&& 0x08#8 ≠ 0#8 → Config.pollMax.allows clear.length = true →
    s.answers = statusAnswers clear ++ .ok [b] :: rest →
    Host.Core.run core (clear.length + 1) s = .next { s with
      st := .dataReady, pollCnt := clear.length, answers := rest
      outstanding := none
      trace := s.trace ++ statusReads s.devAddr (clear ++ [b]) }

/-- 42_operations R165, 60_exceptions R203: with a finite POLL_MAX, as many STATUS reads that find bit 3 clear end the
command with AcquisitionTimeout and the last byte; with none, the loop never ends by itself. -/
def Obligations.PollLoopEndsOrTimesOut : Prop :=
  ∀ (s : State) (clear : List Byte) (b : Byte) (rest : List Answer),
    s.host = [] → s.st = .polling → s.pollCnt = 0 →
    (∀ x ∈ clear, x &&& 0x08#8 = 0#8) → b &&& 0x08#8 = 0#8 →
    s.answers = statusAnswers clear ++ .ok [b] :: rest →
    match Config.pollMax with
    | .inf => ∃ t, Host.Core.run core (clear.length + 1) s = .next t ∧ t.st = .polling ∧ t.pollCnt = clear.length + 1
    | .reads n _ => clear.length + 1 = n →
      ∃ t, Host.Core.run core n s = .next t ∧ t.st = .idle ∧ t.busy = false ∧ t.done = true ∧
        t.errKind = .acquisitionTimeout ∧ t.errCause = false ∧ t.errInfo = b ∧ t.resKind = .none ∧
        t.trace = s.trace ++ statusReads s.devAddr (clear ++ [b])

/-- 42_operations R171 to R173, R177, R178: GET_PRESSURE, GET_ALTITUDE and GET_TEMP from the command port, the sensor ready
after any number of reads the budget allows: the transactions in order, the outcome the host reads, and what the command
leaves in the sensor. The account of written bytes is the model's choice (log 12), and so is that an Ok answer to a write
is Ok whatever bytes it carries (log 14). -/
def Obligations.OneCycleCommandsRun : Prop :=
  ∀ (op pat start n : Byte) (sample : List Byte) (out : CommandOutcome),
    ((∃ m c l, op = 0x02#8 ∧ pat = 0x39#8 ∧ start = 0x01#8 ∧ n = 3#8 ∧ sample = [m, c, l] ∧
        out = .pressure (numDiv (ofExact (decP m c l)) (lit 100 1)) (numDiv (ofExact (decP m c l)) (lit 3386 1))
          (numDiv (ofExact (decP m c l)) (lit 6895 1))) ∨
      (∃ m c l, op = 0x03#8 ∧ pat = 0xB9#8 ∧ start = 0x01#8 ∧ n = 3#8 ∧ sample = [m, c, l] ∧
        out = .altitude (ofExact (decA m c l)) (numMul (ofExact (decA m c l)) (lit 3281 1000))) ∨
      (∃ u v, op = 0x04#8 ∧ pat = 0x39#8 ∧ start = 0x04#8 ∧ n = 2#8 ∧ sample = [u, v] ∧
        out = .temp (ofExact (decT u v)) (numAdd (numDiv (numMul (ofExact (decT u v)) (lit 9 1)) (lit 5 1)) (lit 32 1))
          (numAdd (ofExact (decT u v)) (lit 27315 100)))) →
    ∀ (s : State) (a b : Byte) (w1 w2 clear : List Byte) (rest : List Answer),
      s.host = [] → s.st = .idle → s.busy = false → s.identOk = true → s.cmdPort = some (a ++ op) →
      (∀ x ∈ clear, x &&& 0x08#8 = 0#8) → b &&& 0x08#8 ≠ 0#8 → Config.pollMax.allows clear.length = true →
      s.answers = .ok w1 :: .ok w2 :: (statusAnswers clear ++ .ok [b] :: .ok sample :: rest) →
      ∃ t, Host.Core.run core (clear.length + 6) s = .next t ∧
        t.st = .idle ∧ t.busy = false ∧ t.lastOutcome = some out ∧
        t.devAddr = s.devAddr ∧ t.identOk = true ∧ t.answers = rest ∧
        t.trace = s.trace ++ [.answered (.wr s.devAddr 0x13#8 0x07#8) (.ok []),
            .answered (.wr s.devAddr 0x26#8 pat) (.ok [])] ++ statusReads s.devAddr (clear ++ [b]) ++
          [.answered (.rd s.devAddr start n) (.ok sample)] ∧
        t.writtenByte s.devAddr 0x13#8 = some 0x07#8 ∧ t.writtenByte s.devAddr 0x26#8 = some pat

/-- 42_operations R174, R177, R178: GET_SLP from the command port, two full cycles with a poll budget each, its
transactions in order, its record from both samples, and what it leaves in the sensor. That an Ok answer to a write is Ok
whatever bytes it carries is the model's choice (log 14), and so are that the result of EXP is rounded into the format
(log 7) and the account of written bytes (log 12). -/
def Obligations.GetSlpRuns : Prop :=
  ∀ (s : State) (a b0 b1 m c l u v m1 c1 l1 : Byte) (w1 w2 w3 w4 clear0 clear1 : List Byte) (rest : List Answer),
    s.host = [] → s.st = .idle → s.busy = false → s.identOk = true → s.cmdPort = some (a ++ 0x05#8) →
    (∀ x ∈ clear0, x &&& 0x08#8 = 0#8) → b0 &&& 0x08#8 ≠ 0#8 → Config.pollMax.allows clear0.length = true →
    (∀ x ∈ clear1, x &&& 0x08#8 = 0#8) → b1 &&& 0x08#8 ≠ 0#8 → Config.pollMax.allows clear1.length = true →
    s.answers = .ok w1 :: .ok w2 :: (statusAnswers clear0 ++ .ok [b0] :: .ok [m, c, l, u, v] ::
      .ok w3 :: .ok w4 :: (statusAnswers clear1 ++ .ok [b1] :: .ok [m1, c1, l1] :: rest)) →
    ∃ t, Host.Core.run core (clear0.length + clear1.length + 11) s = .next t ∧
      t.st = .idle ∧ t.busy = false ∧ t.done = true ∧ t.errKind = .none ∧ t.resKind = .slp ∧
      t.lastOutcome = some (.slp t.v0 t.v1 t.v2) ∧
      t.v0 = slp (numDiv (ofExact (decP m c l)) (lit 100 1)) (ofExact (decT u v)) (ofExact (decA m1 c1 l1)) ∧
      t.v1 = numDiv t.v0 (lit 33864 1000) ∧ t.v2 = numDiv t.v0 (lit 68948 1000) ∧
      t.devAddr = s.devAddr ∧ t.identOk = true ∧ t.answers = rest ∧
      t.trace = s.trace ++ [.answered (.wr s.devAddr 0x13#8 0x07#8) (.ok []),
          .answered (.wr s.devAddr 0x26#8 0x39#8) (.ok [])] ++ statusReads s.devAddr (clear0 ++ [b0]) ++
        [.answered (.rd s.devAddr 0x01#8 5#8) (.ok [m, c, l, u, v]),
          .answered (.wr s.devAddr 0x13#8 0x07#8) (.ok []),
          .answered (.wr s.devAddr 0x26#8 0xB9#8) (.ok [])] ++ statusReads s.devAddr (clear1 ++ [b1]) ++
        [.answered (.rd s.devAddr 0x01#8 3#8) (.ok [m1, c1, l1])] ∧
      t.writtenByte s.devAddr 0x13#8 = some 0x07#8 ∧ t.writtenByte s.devAddr 0x26#8 = some 0xB9#8

/-- 42_operations R176, 70 R245, R250: with every transaction answered, whatever the answers, a command in progress is
over within twice `m + 4` steps, or some cycle's poll loop has seen `m` STATUS bytes with bit 3 clear and POLL_MAX allows
one more read; with POLL_MAX itself for `m` the second is excluded. -/
def Obligations.CommandsEndOrPollOn : Prop :=
  ∀ (m : Nat) (s : State), s.Inv → s.host = [] → (∀ x ∈ s.answers, x ≠ .silent) →
    2 * (m + 4) ≤ s.answers.length →
    ∃ k t, k ≤ 2 * (m + 4) ∧ Host.Core.run core k s = .next t ∧
      (t.busy = false ∨ t.st = .polling ∧ m ≤ t.pollCnt ∧ Config.pollMax.allows t.pollCnt = true)

/-! ### The sensor's registers -/

/-- 10_state R40, 60_exceptions R209: what the block's writes leave in the sensors' registers is in canonical form, an
acknowledged write leaves its byte, a failed one leaves its register unknown, and every other byte is as before. Keeping
such an account is the model's choice (log 12). -/
def Obligations.WrittenBytesFollowTheTrace : Prop :=
  ∀ (s t : State) (e : Exchange), t.trace = s.trace ++ [e] →
    t.written.wf = true ∧
    (∀ d reg v r, e = .answered (.wr d reg v) (.ok r) → t.writtenByte d reg = some v) ∧
    (∀ d reg v, e = .answered (.wr d reg v) .busError ∨ e = .abandoned (.wr d reg v) → t.writtenByte d reg = none) ∧
    (∀ d reg, (∀ v, e.txn ≠ .wr d reg v) → t.writtenByte d reg = s.writtenByte d reg)

/-! ### The unpacker and the converter -/

/-- 40_decode R115, R116: the ready test is bit 3 and the identity test is equality with 0xC4. -/
def Obligations.ConditionsTestTheirBits : Prop :=
  ∀ b : Byte, (rdy b = true ↔ b.getLsbD 3 = true) ∧ (idChk b = true ↔ b = 0xC4#8)

/-- 40_decode R110: the packed word is its three bytes in order, with a zero low byte. -/
def Obligations.PackedWordIsItsBytes : Prop :=
  ∀ m c l : Byte, asm32 m c l = m ++ c ++ l ++ 0#8 ∧
    (asm32 m c l).toNat = 256 * (65536 * m.toNat + 256 * c.toNat + l.toNat)

/-- 40_decode R111, R112, R113: the decode functions give exactly the values of their formulas, in every form their
pseudocode writes. -/
def Obligations.DecodedValuesAreExact : Prop :=
  ∀ m c l t u : Byte,
    (decP m c l).value = ((asm32 m c l).toNat : ℚ) / 16384 ∧
    (decP m c l).value = (65536 * m.toNat + 256 * c.toNat + l.toNat : ℚ) / 64 ∧
    (decA m c l).value = ((asm32 m c l).toInt : ℚ) / 65536 ∧
    (decA m c l).value = ((m ++ c : BitVec 16).toInt : ℚ) + (l.toNat : ℚ) / 256 ∧
    (decT t u).value = (t.toInt : ℚ) + (u.toNat : ℚ) / 256

/-- 40_decode R118: each decode is strictly increasing in the big-endian order of its bytes, unsigned for pressure and
signed for the others, so no two samples decode alike. -/
def Obligations.DecodesAreStrictlyIncreasing : Prop :=
  (∀ m c l m' c' l' : Byte, (m ++ c ++ l : BitVec 24).toNat < (m' ++ c' ++ l' : BitVec 24).toNat →
    (decP m c l).value < (decP m' c' l').value) ∧
  (∀ m c l m' c' l' : Byte, (m ++ c ++ l : BitVec 24).toInt < (m' ++ c' ++ l' : BitVec 24).toInt →
    (decA m c l).value < (decA m' c' l').value) ∧
  (∀ t u t' u' : Byte, (t ++ u : BitVec 16).toInt < (t' ++ u' : BitVec 16).toInt →
    (decT t u).value < (decT t' u').value)

/-- 41_convert R134: the unpacker's values enter the converter without error. -/
def Obligations.ExactValuesEnterWithoutError : Prop :=
  ∀ m c l t u : Byte,
    numValue (ofExact (decP m c l)) = (decP m c l).value ∧ numValue (ofExact (decA m c l)) = (decA m c l).value ∧
    numValue (ofExact (decT t u)) = (decT t u).value

/-- 41_convert R131: rounding gives a number of the format, the nearest to the exact value, and of two equally near the one
with an even significand. The exponent of a number has no bound (log 6). -/
def Obligations.RoundingIsToNearestEven : Prop :=
  ∀ (n : Int) (d : Nat) (y : Binary64), 0 < d → y.canonical = true →
    (roundFrac n d).canonical = true ∧
    |numValue (roundFrac n d) - (n : ℚ) / d| ≤ |numValue y - (n : ℚ) / d| ∧
    (|numValue (roundFrac n d) - (n : ℚ) / d| = |numValue y - (n : ℚ) / d| →
      y = roundFrac n d ∨ (roundFrac n d).sig % 2 = 0)

/-- 41_convert R132 with R131: each operation is one rounding of the exact sum, product or quotient of its operands: the
nearest number of the format, and of two equally near the one with an even significand. The exponent of a number has no
bound (log 6). -/
def Obligations.OperationsRoundOnce : Prop :=
  ∀ (a b y : Binary64), y.canonical = true →
    ∀ (exact : ℚ) (r : Binary64),
      (exact = numValue a + numValue b ∧ r = numAdd a b ∨ exact = numValue a * numValue b ∧ r = numMul a b ∨
        numValue b ≠ 0 ∧ exact = numValue a / numValue b ∧ r = numDiv a b) →
      r.canonical = true ∧ |numValue r - exact| ≤ |numValue y - exact| ∧
      (|numValue r - exact| = |numValue y - exact| → y = r ∨ r.sig % 2 = 0)

/-- 41_convert R151 with R135: each slot of the pressure record is within relative 2^-53 of its reference value. -/
def Obligations.PressureRecordErrorIsBounded : Prop :=
  ∀ m c l : Byte,
    |numValue (convP (ofExact (decP m c l))).v0 - (decP m c l).value / 100| ≤ (decP m c l).value / 100 / 2 ^ 53 ∧
    |numValue (convP (ofExact (decP m c l))).v1 - (decP m c l).value / 3386| ≤ (decP m c l).value / 3386 / 2 ^ 53 ∧
    |numValue (convP (ofExact (decP m c l))).v2 - (decP m c l).value / 6895| ≤ (decP m c l).value / 6895 / 2 ^ 53

/-- 41_convert R138: the formula never divides by zero, and its exponent stays below 7.72, for every sample. -/
def Obligations.SlpExponentIsBounded : Prop :=
  ∀ t u m c l : Byte,
    0 < numValue (numAdd (ofExact (decT t u)) kKelvin) ∧
    numValue (numMul kRd (numAdd (ofExact (decT t u)) kKelvin)) ≠ 0 ∧
    |numValue (slpExponent (ofExact (decT t u)) (ofExact (decA m c l)))| < 772 / 100

/-- 41_convert R138 corner cases: at altitude 0 the sea-level pressure is the station pressure exactly, for every
exponential function with property E0 (R150), and at pressure 0 it is 0 for every exponential function. -/
def Obligations.SlpCornerCases : Prop :=
  (∀ (ex : Binary64 → Binary64) (pm : Binary64) (t u : Byte), ex Binary64.zero = lit 1 1 → pm.canonical = true →
    slpWith ex pm (ofExact (decT t u)) (ofExact (decA 0#8 0#8 0#8)) = pm) ∧
  (∀ (ex : Binary64 → Binary64) (c a : Binary64), slpWith ex Binary64.zero c a = Binary64.zero)
end

