-- ==== Sys2Proof/Laws/Memory.lean ====
section
/-! SUPPORT. Every memory operation keeps the canonical form, a read after a write gives the byte written, and a write or
a forgetting leaves every other address alone. -/

namespace Sys2Proof.Machine

/-- Every address of the list lies above `a`. -/
def Memory.above (a : Nat) (m : Memory) : Prop := ∀ c ∈ m, a < c.1

theorem Memory.wf_cons (c : Host.Cell) (m : Memory) :
    Memory.wf (c :: m) = true ↔ Memory.above c.1 m ∧ Memory.wf m = true := by
  induction m generalizing c with
  | nil => simp [Memory.wf, Memory.above]
  | cons d rest ih =>
    simp only [Memory.wf, Bool.and_eq_true, decide_eq_true_eq]
    constructor
    · rintro ⟨h1, h2⟩
      refine ⟨?_, h2⟩
      intro e he
      rcases List.mem_cons.1 he with rfl | he
      · exact h1
      · exact h1.trans (((ih d).1 h2).1 e he)
    · rintro ⟨h1, h2⟩
      exact ⟨h1 d (by simp), h2⟩

theorem Memory.above_write {a addr : Nat} {m : Memory} (b : Byte) (h : Memory.above a m) (ha : a < addr) :
    Memory.above a (m.write addr b) := by
  induction m with
  | nil =>
    intro c hc
    simp only [Memory.write, List.mem_singleton] at hc
    subst hc
    exact ha
  | cons d rest ih =>
    have hd : a < d.1 := h d (by simp)
    have hr : Memory.above a rest := fun c hc => h c (by simp [hc])
    unfold Memory.write
    split_ifs
    · intro c hc
      rcases List.mem_cons.1 hc with rfl | hc
      · exact ha
      · exact h c hc
    · intro c hc
      rcases List.mem_cons.1 hc with rfl | hc
      · exact ha
      · exact hr c hc
    · intro c hc
      rcases List.mem_cons.1 hc with rfl | hc
      · exact hd
      · exact ih hr c hc

theorem Memory.above_forget {a : Nat} {m : Memory} (addr : Nat) (h : Memory.above a m) :
    Memory.above a (m.forget addr) := by
  induction m with
  | nil => exact h
  | cons d rest ih =>
    have hr : Memory.above a rest := fun c hc => h c (by simp [hc])
    unfold Memory.forget
    split_ifs
    · exact hr
    · intro c hc
      rcases List.mem_cons.1 hc with rfl | hc
      · exact h _ (by simp)
      · exact ih hr c hc

theorem Memory.above_mono {a b : Nat} {m : Memory} (hab : a < b) (h : Memory.above b m) : Memory.above a m :=
  fun c hc => hab.trans (h c hc)

theorem Memory.write_wf (m : Memory) (addr : Nat) (b : Byte) (h : m.wf = true) : (m.write addr b).wf = true := by
  induction m with
  | nil => rfl
  | cons d rest ih =>
    obtain ⟨h1, h2⟩ := (Memory.wf_cons d rest).1 h
    unfold Memory.write
    split_ifs with hlt heq
    · refine (Memory.wf_cons _ _).2 ⟨?_, h⟩
      intro c hc
      rcases List.mem_cons.1 hc with rfl | hc
      · exact hlt
      · exact hlt.trans (h1 c hc)
    · exact (Memory.wf_cons _ _).2 ⟨heq ▸ h1, h2⟩
    · exact (Memory.wf_cons _ _).2 ⟨Memory.above_write b h1 (by omega), ih h2⟩

theorem Memory.forget_wf (m : Memory) (addr : Nat) (h : m.wf = true) : (m.forget addr).wf = true := by
  induction m with
  | nil => rfl
  | cons d rest ih =>
    obtain ⟨h1, h2⟩ := (Memory.wf_cons d rest).1 h
    unfold Memory.forget
    split_ifs
    · exact h2
    · exact (Memory.wf_cons _ _).2 ⟨Memory.above_forget addr h1, ih h2⟩

theorem Memory.apply_wf (m : Memory) (e : Exchange) (h : m.wf = true) : (m.apply e).wf = true := by
  unfold Memory.apply
  split
  · exact m.write_wf _ _ h
  · exact m.forget_wf _ h
  · exact m.forget_wf _ h
  · exact h
  · exact h

theorem Memory.read_above {a : Nat} {m : Memory} (h : Memory.above a m) : m.read a = none := by
  induction m with
  | nil => rfl
  | cons d rest ih =>
    have hd : a < d.1 := h d (by simp)
    unfold Memory.read
    rw [if_neg (by omega)]
    exact ih fun c hc => h c (by simp [hc])

theorem Memory.read_write_same (m : Memory) (addr : Nat) (b : Byte) : (m.write addr b).read addr = some b := by
  induction m with
  | nil => simp [Memory.write, Memory.read]
  | cons d rest ih =>
    unfold Memory.write
    split_ifs with h1 h2
    · simp [Memory.read]
    · simp [Memory.read]
    · simp [Memory.read, h2, ih]

theorem Memory.read_write_other (m : Memory) {addr other : Nat} (b : Byte) (h : other ≠ addr) :
    (m.write addr b).read other = m.read other := by
  induction m with
  | nil => simp [Memory.write, Memory.read, h.symm]
  | cons d rest ih =>
    unfold Memory.write
    split_ifs with h1 h2
    · simp [Memory.read, h.symm]
    · have : d.1 ≠ other := fun e => h (by omega)
      simp [Memory.read, h.symm, this]
    · simp [Memory.read, ih]

theorem Memory.read_forget_other (m : Memory) {addr other : Nat} (h : other ≠ addr) :
    (m.forget addr).read other = m.read other := by
  induction m with
  | nil => rfl
  | cons d rest ih =>
    unfold Memory.forget
    split_ifs with h1
    · have : d.1 ≠ other := fun e => h (by omega)
      simp [Memory.read, this]
    · simp [Memory.read, ih]

theorem Memory.read_forget_same (m : Memory) (addr : Nat) (h : m.wf = true) : (m.forget addr).read addr = none := by
  induction m with
  | nil => rfl
  | cons d rest ih =>
    obtain ⟨h1, h2⟩ := (Memory.wf_cons d rest).1 h
    unfold Memory.forget
    split_ifs with he
    · exact Memory.read_above (he ▸ h1)
    · simp [Memory.read, he, ih h2]

/-- Two registers of two devices stand at one address only if they are the same. -/
theorem cellOf_inj {d d' r r' : Byte} (h : cellOf d r = cellOf d' r') : d = d' ∧ r = r' := by
  unfold cellOf at h
  constructor <;> apply BitVec.eq_of_toNat_eq <;> omega

end Sys2Proof.Machine
end

