-- ==== Sys2Proof/Laws/Numeric.lean ====
section
/-! SUPPORT. Rounding gives numbers of the format: the scaled fraction lies where the significand needs it, and every
operation's result is canonical. -/

namespace Sys2Proof.Machine

/-- The scaled fraction of `roundMagnitude` lies from `2 ^ 51` up to `2 ^ 53`. -/
theorem rough_bounds {m d : Nat} (hm : 0 < m) (hd : 0 < d) :
    d * 2 ^ (roughExp m d).toNat * 2 ^ 51 ≤ m * 2 ^ (-roughExp m d).toNat ∧
      m * 2 ^ (-roughExp m d).toNat < d * 2 ^ (roughExp m d).toNat * 2 ^ 53 := by
  have hm1 : 2 ^ m.log2 ≤ m := Nat.log2_self_le hm.ne'
  have hm2 : m < 2 ^ (m.log2 + 1) := Nat.lt_log2_self
  have hd1 : 2 ^ d.log2 ≤ d := Nat.log2_self_le hd.ne'
  have hd2 : d < 2 ^ (d.log2 + 1) := Nat.lt_log2_self
  unfold roughExp
  generalize m.log2 = a at *
  generalize d.log2 = b at *
  obtain ⟨k, hk, hj⟩ | ⟨j, hk, hj⟩ :
      (∃ k : Nat, a = b + 52 + k ∧ (a : Int) - b - 52 = k) ∨ (∃ j : Nat, a + j = b + 52 ∧ (a : Int) - b - 52 = -j) := by
    rcases Nat.le_total (b + 52) a with h | h
    · exact .inl ⟨a - (b + 52), by omega, by omega⟩
    · exact .inr ⟨b + 52 - a, by omega, by omega⟩
  · have e1 : ((k : Nat) : Int).toNat = k := by omega
    have e2 : (-((k : Nat) : Int)).toNat = 0 := by omega
    rw [hj, e1, e2, pow_zero, mul_one, mul_assoc, mul_assoc, ← pow_add, ← pow_add]
    subst hk
    constructor
    · calc d * 2 ^ (k + 51) ≤ 2 ^ (b + 1) * 2 ^ (k + 51) := Nat.mul_le_mul_right _ hd2.le
        _ = 2 ^ (b + 52 + k) := by rw [← pow_add]; congr 1; omega
        _ ≤ m := hm1
    · calc m < 2 ^ (b + 52 + k + 1) := hm2
        _ = 2 ^ b * 2 ^ (k + 53) := by rw [← pow_add]; congr 1; omega
        _ ≤ d * 2 ^ (k + 53) := Nat.mul_le_mul_right _ hd1
  · have e1 : (-((j : Nat) : Int)).toNat = 0 := by omega
    have e2 : (- -((j : Nat) : Int)).toNat = j := by omega
    rw [hj, e1, e2, pow_zero, mul_one]
    constructor
    · calc d * 2 ^ 51 ≤ 2 ^ (b + 1) * 2 ^ 51 := Nat.mul_le_mul_right _ hd2.le
        _ = 2 ^ a * 2 ^ j := by rw [← pow_add, ← pow_add]; congr 1; omega
        _ ≤ m * 2 ^ j := Nat.mul_le_mul_right _ hm1
    · calc m * 2 ^ j < 2 ^ (a + 1) * 2 ^ j := Nat.mul_lt_mul_of_pos_right hm2 (by positivity)
        _ = 2 ^ b * 2 ^ 53 := by rw [← pow_add, ← pow_add]; congr 1; omega
        _ ≤ d * 2 ^ 53 := Nat.mul_le_mul_right _ hd1

/-- The rounded quotient lies between the bounds of the quotient. -/
theorem nearestEven_bounds {p q : Nat} (h1 : q * 2 ^ 52 ≤ p) (h2 : p < q * 2 ^ 53) :
    2 ^ 52 ≤ nearestEven p q ∧ nearestEven p q ≤ 2 ^ 53 := by
  have hq : 0 < q := by
    rcases Nat.eq_zero_or_pos q with h | h
    · subst h; omega
    · exact h
  have a : 2 ^ 52 ≤ p / q := (Nat.le_div_iff_mul_le hq).2 (by linarith [Nat.mul_comm q (2 ^ 52)])
  have b : p / q < 2 ^ 53 := (Nat.div_lt_iff_lt_mul hq).2 (by linarith [Nat.mul_comm q (2 ^ 53)])
  unfold nearestEven
  split <;> omega

theorem roundScaled_bounds {p q : Nat} (k : Int) (h1 : q * 2 ^ 52 ≤ p) (h2 : p < q * 2 ^ 53) :
    2 ^ 52 ≤ (roundScaled p q k).1 ∧ (roundScaled p q k).1 < 2 ^ 53 := by
  have h := nearestEven_bounds h1 h2
  unfold roundScaled
  split
  · exact ⟨le_refl _, by norm_num⟩
  · dsimp only
    omega

theorem roundMagnitude_bounds {m d : Nat} (hm : 0 < m) (hd : 0 < d) :
    2 ^ 52 ≤ (roundMagnitude m d).1 ∧ (roundMagnitude m d).1 < 2 ^ 53 := by
  have h := rough_bounds hm hd
  unfold roundMagnitude roundNormalized
  split
  · exact roundScaled_bounds _ (by omega) (by omega)
  · exact roundScaled_bounds _ (by omega) h.2

/-- Rounding a fraction gives a number of the format. -/
theorem roundFrac_canonical (n : Int) {d : Nat} (hd : 0 < d) : (roundFrac n d).canonical = true := by
  unfold roundFrac
  split
  · rfl
  · rename_i hn
    have h := roundMagnitude_bounds (Int.natAbs_pos.2 hn) hd
    have hs : (n.sign * ((roundMagnitude n.natAbs d).1 : Int)).natAbs = (roundMagnitude n.natAbs d).1 := by
      rw [Int.natAbs_mul, Int.natAbs_sign_of_ne_zero hn, Int.natAbs_natCast, one_mul]
    simp only [Binary64.canonical, hs, Bool.or_eq_true, Bool.and_eq_true, decide_eq_true_eq]
    exact .inr h

theorem denom_pos (x : Binary64) : 0 < denom x := by unfold denom; positivity

theorem numer_natAbs_pos {x : Binary64} (h : x.sig ≠ 0) : 0 < (numer x).natAbs := by
  have : ((2 ^ x.exp.toNat : Nat) : Int) ≠ 0 := by positivity
  exact Int.natAbs_pos.2 (mul_ne_zero h this)

@[simp] theorem renorm_canonical (x : Binary64) : (renorm x).canonical = true :=
  roundFrac_canonical _ (denom_pos x)

@[simp] theorem numAdd_canonical (a b : Binary64) : (numAdd a b).canonical = true :=
  roundFrac_canonical _ (Nat.mul_pos (denom_pos a) (denom_pos b))

@[simp] theorem numMul_canonical (a b : Binary64) : (numMul a b).canonical = true :=
  roundFrac_canonical _ (Nat.mul_pos (denom_pos a) (denom_pos b))

@[simp] theorem numDiv_canonical (a b : Binary64) : (numDiv a b).canonical = true := by
  unfold numDiv
  split
  · exact renorm_canonical _
  · rename_i h
    exact roundFrac_canonical _ (Nat.mul_pos (denom_pos a) (numer_natAbs_pos h))

theorem ofExact_canonical {x : Exact} (h : 0 < x.den) : (ofExact x).canonical = true :=
  roundFrac_canonical _ h

end Sys2Proof.Machine
end

