-- ==== Sys2Proof/Laws/State.lean ====
section
/-! SUPPORT. One lemma per field per update of the state, each true by rfl, so that no later proof unfolds a record
update. Fields that become free values (RAW at a load or drop) have no lemma. -/

namespace Sys2Proof.Machine

@[simp] theorem State.loadRaw_devAddr (s : State) (bs : List Byte) : (s.loadRaw bs).devAddr = s.devAddr := rfl
@[simp] theorem State.loadRaw_identOk (s : State) (bs : List Byte) : (s.loadRaw bs).identOk = s.identOk := rfl
@[simp] theorem State.loadRaw_busy (s : State) (bs : List Byte) : (s.loadRaw bs).busy = s.busy := rfl
@[simp] theorem State.loadRaw_done (s : State) (bs : List Byte) : (s.loadRaw bs).done = s.done := rfl
@[simp] theorem State.loadRaw_st (s : State) (bs : List Byte) : (s.loadRaw bs).st = s.st := rfl
@[simp] theorem State.loadRaw_opc (s : State) (bs : List Byte) : (s.loadRaw bs).opc = s.opc := rfl
@[simp] theorem State.loadRaw_sub (s : State) (bs : List Byte) : (s.loadRaw bs).sub = s.sub := rfl
@[simp] theorem State.loadRaw_phase (s : State) (bs : List Byte) : (s.loadRaw bs).phase = s.phase := rfl
@[simp] theorem State.loadRaw_pollCnt (s : State) (bs : List Byte) : (s.loadRaw bs).pollCnt = s.pollCnt := rfl
@[simp] theorem State.loadRaw_hPmbar (s : State) (bs : List Byte) : (s.loadRaw bs).hPmbar = s.hPmbar := rfl
@[simp] theorem State.loadRaw_hTc (s : State) (bs : List Byte) : (s.loadRaw bs).hTc = s.hTc := rfl
@[simp] theorem State.loadRaw_resKind (s : State) (bs : List Byte) : (s.loadRaw bs).resKind = s.resKind := rfl
@[simp] theorem State.loadRaw_v0 (s : State) (bs : List Byte) : (s.loadRaw bs).v0 = s.v0 := rfl
@[simp] theorem State.loadRaw_v1 (s : State) (bs : List Byte) : (s.loadRaw bs).v1 = s.v1 := rfl
@[simp] theorem State.loadRaw_v2 (s : State) (bs : List Byte) : (s.loadRaw bs).v2 = s.v2 := rfl
@[simp] theorem State.loadRaw_errKind (s : State) (bs : List Byte) : (s.loadRaw bs).errKind = s.errKind := rfl
@[simp] theorem State.loadRaw_errCause (s : State) (bs : List Byte) : (s.loadRaw bs).errCause = s.errCause := rfl
@[simp] theorem State.loadRaw_errInfo (s : State) (bs : List Byte) : (s.loadRaw bs).errInfo = s.errInfo := rfl
@[simp] theorem State.loadRaw_cmdPort (s : State) (bs : List Byte) : (s.loadRaw bs).cmdPort = s.cmdPort := rfl
@[simp] theorem State.loadRaw_host (s : State) (bs : List Byte) : (s.loadRaw bs).host = s.host := rfl
@[simp] theorem State.loadRaw_answers (s : State) (bs : List Byte) : (s.loadRaw bs).answers = s.answers := rfl
@[simp] theorem State.loadRaw_outstanding (s : State) (bs : List Byte) : (s.loadRaw bs).outstanding = s.outstanding := rfl
@[simp] theorem State.loadRaw_trace (s : State) (bs : List Byte) : (s.loadRaw bs).trace = s.trace := rfl
@[simp] theorem State.loadRaw_free (s : State) (bs : List Byte) : (s.loadRaw bs).free = s.free + 1 := rfl

@[simp] theorem State.dropRaw_devAddr (s : State) : (s.dropRaw).devAddr = s.devAddr := rfl
@[simp] theorem State.dropRaw_identOk (s : State) : (s.dropRaw).identOk = s.identOk := rfl
@[simp] theorem State.dropRaw_busy (s : State) : (s.dropRaw).busy = s.busy := rfl
@[simp] theorem State.dropRaw_done (s : State) : (s.dropRaw).done = s.done := rfl
@[simp] theorem State.dropRaw_st (s : State) : (s.dropRaw).st = s.st := rfl
@[simp] theorem State.dropRaw_opc (s : State) : (s.dropRaw).opc = s.opc := rfl
@[simp] theorem State.dropRaw_sub (s : State) : (s.dropRaw).sub = s.sub := rfl
@[simp] theorem State.dropRaw_phase (s : State) : (s.dropRaw).phase = s.phase := rfl
@[simp] theorem State.dropRaw_pollCnt (s : State) : (s.dropRaw).pollCnt = s.pollCnt := rfl
@[simp] theorem State.dropRaw_hPmbar (s : State) : (s.dropRaw).hPmbar = s.hPmbar := rfl
@[simp] theorem State.dropRaw_hTc (s : State) : (s.dropRaw).hTc = s.hTc := rfl
@[simp] theorem State.dropRaw_resKind (s : State) : (s.dropRaw).resKind = s.resKind := rfl
@[simp] theorem State.dropRaw_v0 (s : State) : (s.dropRaw).v0 = s.v0 := rfl
@[simp] theorem State.dropRaw_v1 (s : State) : (s.dropRaw).v1 = s.v1 := rfl
@[simp] theorem State.dropRaw_v2 (s : State) : (s.dropRaw).v2 = s.v2 := rfl
@[simp] theorem State.dropRaw_errKind (s : State) : (s.dropRaw).errKind = s.errKind := rfl
@[simp] theorem State.dropRaw_errCause (s : State) : (s.dropRaw).errCause = s.errCause := rfl
@[simp] theorem State.dropRaw_errInfo (s : State) : (s.dropRaw).errInfo = s.errInfo := rfl
@[simp] theorem State.dropRaw_cmdPort (s : State) : (s.dropRaw).cmdPort = s.cmdPort := rfl
@[simp] theorem State.dropRaw_host (s : State) : (s.dropRaw).host = s.host := rfl
@[simp] theorem State.dropRaw_answers (s : State) : (s.dropRaw).answers = s.answers := rfl
@[simp] theorem State.dropRaw_outstanding (s : State) : (s.dropRaw).outstanding = s.outstanding := rfl
@[simp] theorem State.dropRaw_trace (s : State) : (s.dropRaw).trace = s.trace := rfl
@[simp] theorem State.dropRaw_free (s : State) : (s.dropRaw).free = s.free + 1 := rfl

@[simp] theorem State.dropSample_devAddr (s : State) : (s.dropSample).devAddr = s.devAddr := rfl
@[simp] theorem State.dropSample_identOk (s : State) : (s.dropSample).identOk = s.identOk := rfl
@[simp] theorem State.dropSample_busy (s : State) : (s.dropSample).busy = s.busy := rfl
@[simp] theorem State.dropSample_done (s : State) : (s.dropSample).done = s.done := rfl
@[simp] theorem State.dropSample_st (s : State) : (s.dropSample).st = s.st := rfl
@[simp] theorem State.dropSample_opc (s : State) : (s.dropSample).opc = s.opc := rfl
@[simp] theorem State.dropSample_sub (s : State) : (s.dropSample).sub = s.sub := rfl
@[simp] theorem State.dropSample_phase (s : State) : (s.dropSample).phase = s.phase := rfl
@[simp] theorem State.dropSample_pollCnt (s : State) : (s.dropSample).pollCnt = s.pollCnt := rfl
@[simp] theorem State.dropSample_hPmbar (s : State) : (s.dropSample).hPmbar = s.openNum 5 := rfl
@[simp] theorem State.dropSample_hTc (s : State) : (s.dropSample).hTc = s.openNum 6 := rfl
@[simp] theorem State.dropSample_resKind (s : State) : (s.dropSample).resKind = s.resKind := rfl
@[simp] theorem State.dropSample_v0 (s : State) : (s.dropSample).v0 = s.v0 := rfl
@[simp] theorem State.dropSample_v1 (s : State) : (s.dropSample).v1 = s.v1 := rfl
@[simp] theorem State.dropSample_v2 (s : State) : (s.dropSample).v2 = s.v2 := rfl
@[simp] theorem State.dropSample_errKind (s : State) : (s.dropSample).errKind = s.errKind := rfl
@[simp] theorem State.dropSample_errCause (s : State) : (s.dropSample).errCause = s.errCause := rfl
@[simp] theorem State.dropSample_errInfo (s : State) : (s.dropSample).errInfo = s.errInfo := rfl
@[simp] theorem State.dropSample_cmdPort (s : State) : (s.dropSample).cmdPort = s.cmdPort := rfl
@[simp] theorem State.dropSample_host (s : State) : (s.dropSample).host = s.host := rfl
@[simp] theorem State.dropSample_answers (s : State) : (s.dropSample).answers = s.answers := rfl
@[simp] theorem State.dropSample_outstanding (s : State) : (s.dropSample).outstanding = s.outstanding := rfl
@[simp] theorem State.dropSample_trace (s : State) : (s.dropSample).trace = s.trace := rfl
@[simp] theorem State.dropSample_free (s : State) : (s.dropSample).free = s.free + 1 := rfl

@[simp] theorem State.clearResult_devAddr (s : State) : (s.clearResult).devAddr = s.devAddr := rfl
@[simp] theorem State.clearResult_identOk (s : State) : (s.clearResult).identOk = s.identOk := rfl
@[simp] theorem State.clearResult_busy (s : State) : (s.clearResult).busy = s.busy := rfl
@[simp] theorem State.clearResult_done (s : State) : (s.clearResult).done = s.done := rfl
@[simp] theorem State.clearResult_st (s : State) : (s.clearResult).st = s.st := rfl
@[simp] theorem State.clearResult_opc (s : State) : (s.clearResult).opc = s.opc := rfl
@[simp] theorem State.clearResult_sub (s : State) : (s.clearResult).sub = s.sub := rfl
@[simp] theorem State.clearResult_phase (s : State) : (s.clearResult).phase = s.phase := rfl
@[simp] theorem State.clearResult_pollCnt (s : State) : (s.clearResult).pollCnt = s.pollCnt := rfl
@[simp] theorem State.clearResult_raw (s : State) : (s.clearResult).raw = s.raw := rfl
@[simp] theorem State.clearResult_hPmbar (s : State) : (s.clearResult).hPmbar = s.hPmbar := rfl
@[simp] theorem State.clearResult_hTc (s : State) : (s.clearResult).hTc = s.hTc := rfl
@[simp] theorem State.clearResult_resKind (s : State) : (s.clearResult).resKind = .none := rfl
@[simp] theorem State.clearResult_v0 (s : State) : (s.clearResult).v0 = s.openNum 0 := rfl
@[simp] theorem State.clearResult_v1 (s : State) : (s.clearResult).v1 = s.openNum 1 := rfl
@[simp] theorem State.clearResult_v2 (s : State) : (s.clearResult).v2 = s.openNum 2 := rfl
@[simp] theorem State.clearResult_errKind (s : State) : (s.clearResult).errKind = s.errKind := rfl
@[simp] theorem State.clearResult_errCause (s : State) : (s.clearResult).errCause = s.errCause := rfl
@[simp] theorem State.clearResult_errInfo (s : State) : (s.clearResult).errInfo = s.errInfo := rfl
@[simp] theorem State.clearResult_cmdPort (s : State) : (s.clearResult).cmdPort = s.cmdPort := rfl
@[simp] theorem State.clearResult_host (s : State) : (s.clearResult).host = s.host := rfl
@[simp] theorem State.clearResult_answers (s : State) : (s.clearResult).answers = s.answers := rfl
@[simp] theorem State.clearResult_outstanding (s : State) : (s.clearResult).outstanding = s.outstanding := rfl
@[simp] theorem State.clearResult_trace (s : State) : (s.clearResult).trace = s.trace := rfl
@[simp] theorem State.clearResult_free (s : State) : (s.clearResult).free = s.free + 1 := rfl

@[simp] theorem State.endCommand_devAddr (s : State) : (s.endCommand).devAddr = s.devAddr := rfl
@[simp] theorem State.endCommand_identOk (s : State) : (s.endCommand).identOk = s.identOk := rfl
@[simp] theorem State.endCommand_busy (s : State) : (s.endCommand).busy = false := rfl
@[simp] theorem State.endCommand_done (s : State) : (s.endCommand).done = true := rfl
@[simp] theorem State.endCommand_st (s : State) : (s.endCommand).st = .idle := rfl
@[simp] theorem State.endCommand_opc (s : State) : (s.endCommand).opc = s.opc := rfl
@[simp] theorem State.endCommand_sub (s : State) : (s.endCommand).sub = s.sub := rfl
@[simp] theorem State.endCommand_phase (s : State) : (s.endCommand).phase = s.phase := rfl
@[simp] theorem State.endCommand_pollCnt (s : State) : (s.endCommand).pollCnt = s.pollCnt := rfl
@[simp] theorem State.endCommand_hPmbar (s : State) : (s.endCommand).hPmbar = s.openNum 5 := rfl
@[simp] theorem State.endCommand_hTc (s : State) : (s.endCommand).hTc = s.openNum 6 := rfl
@[simp] theorem State.endCommand_resKind (s : State) : (s.endCommand).resKind = s.resKind := rfl
@[simp] theorem State.endCommand_v0 (s : State) : (s.endCommand).v0 = s.v0 := rfl
@[simp] theorem State.endCommand_v1 (s : State) : (s.endCommand).v1 = s.v1 := rfl
@[simp] theorem State.endCommand_v2 (s : State) : (s.endCommand).v2 = s.v2 := rfl
@[simp] theorem State.endCommand_errKind (s : State) : (s.endCommand).errKind = s.errKind := rfl
@[simp] theorem State.endCommand_errCause (s : State) : (s.endCommand).errCause = s.errCause := rfl
@[simp] theorem State.endCommand_errInfo (s : State) : (s.endCommand).errInfo = s.errInfo := rfl
@[simp] theorem State.endCommand_cmdPort (s : State) : (s.endCommand).cmdPort = s.cmdPort := rfl
@[simp] theorem State.endCommand_host (s : State) : (s.endCommand).host = s.host := rfl
@[simp] theorem State.endCommand_answers (s : State) : (s.endCommand).answers = s.answers := rfl
@[simp] theorem State.endCommand_outstanding (s : State) : (s.endCommand).outstanding = s.outstanding := rfl
@[simp] theorem State.endCommand_trace (s : State) : (s.endCommand).trace = s.trace := rfl
@[simp] theorem State.endCommand_free (s : State) : (s.endCommand).free = s.free + 1 := rfl

@[simp] theorem State.finish_devAddr (s : State) : (s.finish).devAddr = s.devAddr := rfl
@[simp] theorem State.finish_identOk (s : State) : (s.finish).identOk = s.identOk := rfl
@[simp] theorem State.finish_busy (s : State) : (s.finish).busy = false := rfl
@[simp] theorem State.finish_done (s : State) : (s.finish).done = true := rfl
@[simp] theorem State.finish_st (s : State) : (s.finish).st = .idle := rfl
@[simp] theorem State.finish_opc (s : State) : (s.finish).opc = s.opc := rfl
@[simp] theorem State.finish_sub (s : State) : (s.finish).sub = s.sub := rfl
@[simp] theorem State.finish_phase (s : State) : (s.finish).phase = s.phase := rfl
@[simp] theorem State.finish_pollCnt (s : State) : (s.finish).pollCnt = s.pollCnt := rfl
@[simp] theorem State.finish_hPmbar (s : State) : (s.finish).hPmbar = s.openNum 5 := rfl
@[simp] theorem State.finish_hTc (s : State) : (s.finish).hTc = s.openNum 6 := rfl
@[simp] theorem State.finish_resKind (s : State) : (s.finish).resKind = s.resKind := rfl
@[simp] theorem State.finish_v0 (s : State) : (s.finish).v0 = s.v0 := rfl
@[simp] theorem State.finish_v1 (s : State) : (s.finish).v1 = s.v1 := rfl
@[simp] theorem State.finish_v2 (s : State) : (s.finish).v2 = s.v2 := rfl
@[simp] theorem State.finish_errKind (s : State) : (s.finish).errKind = s.errKind := rfl
@[simp] theorem State.finish_errCause (s : State) : (s.finish).errCause = s.errCause := rfl
@[simp] theorem State.finish_errInfo (s : State) : (s.finish).errInfo = s.errInfo := rfl
@[simp] theorem State.finish_cmdPort (s : State) : (s.finish).cmdPort = s.cmdPort := rfl
@[simp] theorem State.finish_host (s : State) : (s.finish).host = s.host := rfl
@[simp] theorem State.finish_answers (s : State) : (s.finish).answers = s.answers := rfl
@[simp] theorem State.finish_outstanding (s : State) : (s.finish).outstanding = s.outstanding := rfl
@[simp] theorem State.finish_trace (s : State) : (s.finish).trace = s.trace := rfl
@[simp] theorem State.finish_free (s : State) : (s.finish).free = s.free + 1 := rfl

@[simp] theorem State.raise_devAddr (s : State) (e : ErrKind) (c : Bool) (b : Byte) : (s.raise e c b).devAddr = s.devAddr := rfl
@[simp] theorem State.raise_identOk (s : State) (e : ErrKind) (c : Bool) (b : Byte) : (s.raise e c b).identOk = s.identOk := rfl
@[simp] theorem State.raise_busy (s : State) (e : ErrKind) (c : Bool) (b : Byte) : (s.raise e c b).busy = false := rfl
@[simp] theorem State.raise_done (s : State) (e : ErrKind) (c : Bool) (b : Byte) : (s.raise e c b).done = true := rfl
@[simp] theorem State.raise_st (s : State) (e : ErrKind) (c : Bool) (b : Byte) : (s.raise e c b).st = .idle := rfl
@[simp] theorem State.raise_opc (s : State) (e : ErrKind) (c : Bool) (b : Byte) : (s.raise e c b).opc = s.opc := rfl
@[simp] theorem State.raise_sub (s : State) (e : ErrKind) (c : Bool) (b : Byte) : (s.raise e c b).sub = s.sub := rfl
@[simp] theorem State.raise_phase (s : State) (e : ErrKind) (c : Bool) (b : Byte) : (s.raise e c b).phase = s.phase := rfl
@[simp] theorem State.raise_pollCnt (s : State) (e : ErrKind) (c : Bool) (b : Byte) : (s.raise e c b).pollCnt = s.pollCnt := rfl
@[simp] theorem State.raise_resKind (s : State) (e : ErrKind) (c : Bool) (b : Byte) : (s.raise e c b).resKind = .none := rfl
@[simp] theorem State.raise_v0 (s : State) (e : ErrKind) (c : Bool) (b : Byte) : (s.raise e c b).v0 = s.openNum 0 := rfl
@[simp] theorem State.raise_v1 (s : State) (e : ErrKind) (c : Bool) (b : Byte) : (s.raise e c b).v1 = s.openNum 1 := rfl
@[simp] theorem State.raise_v2 (s : State) (e : ErrKind) (c : Bool) (b : Byte) : (s.raise e c b).v2 = s.openNum 2 := rfl
@[simp] theorem State.raise_errKind (s : State) (e : ErrKind) (c : Bool) (b : Byte) : (s.raise e c b).errKind = e := rfl
@[simp] theorem State.raise_errCause (s : State) (e : ErrKind) (c : Bool) (b : Byte) : (s.raise e c b).errCause = c := rfl
@[simp] theorem State.raise_errInfo (s : State) (e : ErrKind) (c : Bool) (b : Byte) : (s.raise e c b).errInfo = b := rfl
@[simp] theorem State.raise_cmdPort (s : State) (e : ErrKind) (c : Bool) (b : Byte) : (s.raise e c b).cmdPort = s.cmdPort := rfl
@[simp] theorem State.raise_host (s : State) (e : ErrKind) (c : Bool) (b : Byte) : (s.raise e c b).host = s.host := rfl
@[simp] theorem State.raise_answers (s : State) (e : ErrKind) (c : Bool) (b : Byte) : (s.raise e c b).answers = s.answers := rfl
@[simp] theorem State.raise_outstanding (s : State) (e : ErrKind) (c : Bool) (b : Byte) : (s.raise e c b).outstanding = s.outstanding := rfl
@[simp] theorem State.raise_trace (s : State) (e : ErrKind) (c : Bool) (b : Byte) : (s.raise e c b).trace = s.trace := rfl
@[simp] theorem State.raise_free (s : State) (e : ErrKind) (c : Bool) (b : Byte) : (s.raise e c b).free = s.free + 1 + 1 := rfl

@[simp] theorem State.accept_devAddr (s : State) (op : Byte) : (s.accept op).devAddr = s.devAddr := rfl
@[simp] theorem State.accept_identOk (s : State) (op : Byte) : (s.accept op).identOk = s.identOk := rfl
@[simp] theorem State.accept_busy (s : State) (op : Byte) : (s.accept op).busy = s.busy := rfl
@[simp] theorem State.accept_done (s : State) (op : Byte) : (s.accept op).done = false := rfl
@[simp] theorem State.accept_st (s : State) (op : Byte) : (s.accept op).st = s.st := rfl
@[simp] theorem State.accept_opc (s : State) (op : Byte) : (s.accept op).opc = op := rfl
@[simp] theorem State.accept_sub (s : State) (op : Byte) : (s.accept op).sub = false := rfl
@[simp] theorem State.accept_phase (s : State) (op : Byte) : (s.accept op).phase = false := rfl
@[simp] theorem State.accept_pollCnt (s : State) (op : Byte) : (s.accept op).pollCnt = 0 := rfl
@[simp] theorem State.accept_raw (s : State) (op : Byte) : (s.accept op).raw = s.raw := rfl
@[simp] theorem State.accept_hPmbar (s : State) (op : Byte) : (s.accept op).hPmbar = s.hPmbar := rfl
@[simp] theorem State.accept_hTc (s : State) (op : Byte) : (s.accept op).hTc = s.hTc := rfl
@[simp] theorem State.accept_resKind (s : State) (op : Byte) : (s.accept op).resKind = .none := rfl
@[simp] theorem State.accept_v0 (s : State) (op : Byte) : (s.accept op).v0 = s.openNum 0 := rfl
@[simp] theorem State.accept_v1 (s : State) (op : Byte) : (s.accept op).v1 = s.openNum 1 := rfl
@[simp] theorem State.accept_v2 (s : State) (op : Byte) : (s.accept op).v2 = s.openNum 2 := rfl
@[simp] theorem State.accept_errKind (s : State) (op : Byte) : (s.accept op).errKind = .none := rfl
@[simp] theorem State.accept_errCause (s : State) (op : Byte) : (s.accept op).errCause = false := rfl
@[simp] theorem State.accept_errInfo (s : State) (op : Byte) : (s.accept op).errInfo = 0#8 := rfl
@[simp] theorem State.accept_cmdPort (s : State) (op : Byte) : (s.accept op).cmdPort = none := rfl
@[simp] theorem State.accept_host (s : State) (op : Byte) : (s.accept op).host = s.host := rfl
@[simp] theorem State.accept_answers (s : State) (op : Byte) : (s.accept op).answers = s.answers := rfl
@[simp] theorem State.accept_outstanding (s : State) (op : Byte) : (s.accept op).outstanding = s.outstanding := rfl
@[simp] theorem State.accept_trace (s : State) (op : Byte) : (s.accept op).trace = s.trace := rfl
@[simp] theorem State.accept_free (s : State) (op : Byte) : (s.accept op).free = s.free + 1 := rfl

@[simp] theorem State.answered_devAddr (s : State) (t : Txn) (r : Reply) (rest : List Answer) : (s.answered t r rest).devAddr = s.devAddr := rfl
@[simp] theorem State.answered_identOk (s : State) (t : Txn) (r : Reply) (rest : List Answer) : (s.answered t r rest).identOk = s.identOk := rfl
@[simp] theorem State.answered_busy (s : State) (t : Txn) (r : Reply) (rest : List Answer) : (s.answered t r rest).busy = s.busy := rfl
@[simp] theorem State.answered_done (s : State) (t : Txn) (r : Reply) (rest : List Answer) : (s.answered t r rest).done = s.done := rfl
@[simp] theorem State.answered_st (s : State) (t : Txn) (r : Reply) (rest : List Answer) : (s.answered t r rest).st = s.st := rfl
@[simp] theorem State.answered_opc (s : State) (t : Txn) (r : Reply) (rest : List Answer) : (s.answered t r rest).opc = s.opc := rfl
@[simp] theorem State.answered_sub (s : State) (t : Txn) (r : Reply) (rest : List Answer) : (s.answered t r rest).sub = s.sub := rfl
@[simp] theorem State.answered_phase (s : State) (t : Txn) (r : Reply) (rest : List Answer) : (s.answered t r rest).phase = s.phase := rfl
@[simp] theorem State.answered_pollCnt (s : State) (t : Txn) (r : Reply) (rest : List Answer) : (s.answered t r rest).pollCnt = s.pollCnt := rfl
@[simp] theorem State.answered_raw (s : State) (t : Txn) (r : Reply) (rest : List Answer) : (s.answered t r rest).raw = s.raw := rfl
@[simp] theorem State.answered_hPmbar (s : State) (t : Txn) (r : Reply) (rest : List Answer) : (s.answered t r rest).hPmbar = s.hPmbar := rfl
@[simp] theorem State.answered_hTc (s : State) (t : Txn) (r : Reply) (rest : List Answer) : (s.answered t r rest).hTc = s.hTc := rfl
@[simp] theorem State.answered_resKind (s : State) (t : Txn) (r : Reply) (rest : List Answer) : (s.answered t r rest).resKind = s.resKind := rfl
@[simp] theorem State.answered_v0 (s : State) (t : Txn) (r : Reply) (rest : List Answer) : (s.answered t r rest).v0 = s.v0 := rfl
@[simp] theorem State.answered_v1 (s : State) (t : Txn) (r : Reply) (rest : List Answer) : (s.answered t r rest).v1 = s.v1 := rfl
@[simp] theorem State.answered_v2 (s : State) (t : Txn) (r : Reply) (rest : List Answer) : (s.answered t r rest).v2 = s.v2 := rfl
@[simp] theorem State.answered_errKind (s : State) (t : Txn) (r : Reply) (rest : List Answer) : (s.answered t r rest).errKind = s.errKind := rfl
@[simp] theorem State.answered_errCause (s : State) (t : Txn) (r : Reply) (rest : List Answer) : (s.answered t r rest).errCause = s.errCause := rfl
@[simp] theorem State.answered_errInfo (s : State) (t : Txn) (r : Reply) (rest : List Answer) : (s.answered t r rest).errInfo = s.errInfo := rfl
@[simp] theorem State.answered_cmdPort (s : State) (t : Txn) (r : Reply) (rest : List Answer) : (s.answered t r rest).cmdPort = s.cmdPort := rfl
@[simp] theorem State.answered_host (s : State) (t : Txn) (r : Reply) (rest : List Answer) : (s.answered t r rest).host = s.host := rfl
@[simp] theorem State.answered_answers (s : State) (t : Txn) (r : Reply) (rest : List Answer) : (s.answered t r rest).answers = rest := rfl
@[simp] theorem State.answered_outstanding (s : State) (t : Txn) (r : Reply) (rest : List Answer) : (s.answered t r rest).outstanding = none := rfl
@[simp] theorem State.answered_trace (s : State) (t : Txn) (r : Reply) (rest : List Answer) : (s.answered t r rest).trace = s.trace ++ [.answered t r] := rfl
@[simp] theorem State.answered_free (s : State) (t : Txn) (r : Reply) (rest : List Answer) : (s.answered t r rest).free = s.free := rfl

@[simp] theorem State.waiting_devAddr (s : State) (t : Txn) (rest : List Answer) : (s.waiting t rest).devAddr = s.devAddr := rfl
@[simp] theorem State.waiting_identOk (s : State) (t : Txn) (rest : List Answer) : (s.waiting t rest).identOk = s.identOk := rfl
@[simp] theorem State.waiting_busy (s : State) (t : Txn) (rest : List Answer) : (s.waiting t rest).busy = s.busy := rfl
@[simp] theorem State.waiting_done (s : State) (t : Txn) (rest : List Answer) : (s.waiting t rest).done = s.done := rfl
@[simp] theorem State.waiting_st (s : State) (t : Txn) (rest : List Answer) : (s.waiting t rest).st = s.st := rfl
@[simp] theorem State.waiting_opc (s : State) (t : Txn) (rest : List Answer) : (s.waiting t rest).opc = s.opc := rfl
@[simp] theorem State.waiting_sub (s : State) (t : Txn) (rest : List Answer) : (s.waiting t rest).sub = s.sub := rfl
@[simp] theorem State.waiting_phase (s : State) (t : Txn) (rest : List Answer) : (s.waiting t rest).phase = s.phase := rfl
@[simp] theorem State.waiting_pollCnt (s : State) (t : Txn) (rest : List Answer) : (s.waiting t rest).pollCnt = s.pollCnt := rfl
@[simp] theorem State.waiting_raw (s : State) (t : Txn) (rest : List Answer) : (s.waiting t rest).raw = s.raw := rfl
@[simp] theorem State.waiting_hPmbar (s : State) (t : Txn) (rest : List Answer) : (s.waiting t rest).hPmbar = s.hPmbar := rfl
@[simp] theorem State.waiting_hTc (s : State) (t : Txn) (rest : List Answer) : (s.waiting t rest).hTc = s.hTc := rfl
@[simp] theorem State.waiting_resKind (s : State) (t : Txn) (rest : List Answer) : (s.waiting t rest).resKind = s.resKind := rfl
@[simp] theorem State.waiting_v0 (s : State) (t : Txn) (rest : List Answer) : (s.waiting t rest).v0 = s.v0 := rfl
@[simp] theorem State.waiting_v1 (s : State) (t : Txn) (rest : List Answer) : (s.waiting t rest).v1 = s.v1 := rfl
@[simp] theorem State.waiting_v2 (s : State) (t : Txn) (rest : List Answer) : (s.waiting t rest).v2 = s.v2 := rfl
@[simp] theorem State.waiting_errKind (s : State) (t : Txn) (rest : List Answer) : (s.waiting t rest).errKind = s.errKind := rfl
@[simp] theorem State.waiting_errCause (s : State) (t : Txn) (rest : List Answer) : (s.waiting t rest).errCause = s.errCause := rfl
@[simp] theorem State.waiting_errInfo (s : State) (t : Txn) (rest : List Answer) : (s.waiting t rest).errInfo = s.errInfo := rfl
@[simp] theorem State.waiting_cmdPort (s : State) (t : Txn) (rest : List Answer) : (s.waiting t rest).cmdPort = s.cmdPort := rfl
@[simp] theorem State.waiting_host (s : State) (t : Txn) (rest : List Answer) : (s.waiting t rest).host = s.host := rfl
@[simp] theorem State.waiting_answers (s : State) (t : Txn) (rest : List Answer) : (s.waiting t rest).answers = rest := rfl
@[simp] theorem State.waiting_outstanding (s : State) (t : Txn) (rest : List Answer) : (s.waiting t rest).outstanding = some t := rfl
@[simp] theorem State.waiting_trace (s : State) (t : Txn) (rest : List Answer) : (s.waiting t rest).trace = s.trace := rfl
@[simp] theorem State.waiting_free (s : State) (t : Txn) (rest : List Answer) : (s.waiting t rest).free = s.free := rfl

@[simp] theorem State.setSlots_devAddr (s : State) (k : ResKind) (t : Triple) : (s.setSlots k t).devAddr = s.devAddr := rfl
@[simp] theorem State.setSlots_identOk (s : State) (k : ResKind) (t : Triple) : (s.setSlots k t).identOk = s.identOk := rfl
@[simp] theorem State.setSlots_busy (s : State) (k : ResKind) (t : Triple) : (s.setSlots k t).busy = s.busy := rfl
@[simp] theorem State.setSlots_done (s : State) (k : ResKind) (t : Triple) : (s.setSlots k t).done = s.done := rfl
@[simp] theorem State.setSlots_st (s : State) (k : ResKind) (t : Triple) : (s.setSlots k t).st = s.st := rfl
@[simp] theorem State.setSlots_opc (s : State) (k : ResKind) (t : Triple) : (s.setSlots k t).opc = s.opc := rfl
@[simp] theorem State.setSlots_sub (s : State) (k : ResKind) (t : Triple) : (s.setSlots k t).sub = s.sub := rfl
@[simp] theorem State.setSlots_phase (s : State) (k : ResKind) (t : Triple) : (s.setSlots k t).phase = s.phase := rfl
@[simp] theorem State.setSlots_pollCnt (s : State) (k : ResKind) (t : Triple) : (s.setSlots k t).pollCnt = s.pollCnt := rfl
@[simp] theorem State.setSlots_raw (s : State) (k : ResKind) (t : Triple) : (s.setSlots k t).raw = s.raw := rfl
@[simp] theorem State.setSlots_hPmbar (s : State) (k : ResKind) (t : Triple) : (s.setSlots k t).hPmbar = s.hPmbar := rfl
@[simp] theorem State.setSlots_hTc (s : State) (k : ResKind) (t : Triple) : (s.setSlots k t).hTc = s.hTc := rfl
@[simp] theorem State.setSlots_resKind (s : State) (k : ResKind) (t : Triple) : (s.setSlots k t).resKind = k := rfl
@[simp] theorem State.setSlots_v0 (s : State) (k : ResKind) (t : Triple) : (s.setSlots k t).v0 = t.v0 := rfl
@[simp] theorem State.setSlots_v1 (s : State) (k : ResKind) (t : Triple) : (s.setSlots k t).v1 = t.v1 := rfl
@[simp] theorem State.setSlots_v2 (s : State) (k : ResKind) (t : Triple) : (s.setSlots k t).v2 = t.v2 := rfl
@[simp] theorem State.setSlots_errKind (s : State) (k : ResKind) (t : Triple) : (s.setSlots k t).errKind = s.errKind := rfl
@[simp] theorem State.setSlots_errCause (s : State) (k : ResKind) (t : Triple) : (s.setSlots k t).errCause = s.errCause := rfl
@[simp] theorem State.setSlots_errInfo (s : State) (k : ResKind) (t : Triple) : (s.setSlots k t).errInfo = s.errInfo := rfl
@[simp] theorem State.setSlots_cmdPort (s : State) (k : ResKind) (t : Triple) : (s.setSlots k t).cmdPort = s.cmdPort := rfl
@[simp] theorem State.setSlots_host (s : State) (k : ResKind) (t : Triple) : (s.setSlots k t).host = s.host := rfl
@[simp] theorem State.setSlots_answers (s : State) (k : ResKind) (t : Triple) : (s.setSlots k t).answers = s.answers := rfl
@[simp] theorem State.setSlots_outstanding (s : State) (k : ResKind) (t : Triple) : (s.setSlots k t).outstanding = s.outstanding := rfl
@[simp] theorem State.setSlots_trace (s : State) (k : ResKind) (t : Triple) : (s.setSlots k t).trace = s.trace := rfl
@[simp] theorem State.setSlots_free (s : State) (k : ResKind) (t : Triple) : (s.setSlots k t).free = s.free := rfl

@[simp] theorem State.resetStep_devAddr (s : State) : s.resetStep.devAddr = State.reset.devAddr := rfl
@[simp] theorem State.resetStep_identOk (s : State) : s.resetStep.identOk = State.reset.identOk := rfl
@[simp] theorem State.resetStep_busy (s : State) : s.resetStep.busy = State.reset.busy := rfl
@[simp] theorem State.resetStep_done (s : State) : s.resetStep.done = State.reset.done := rfl
@[simp] theorem State.resetStep_st (s : State) : s.resetStep.st = State.reset.st := rfl
@[simp] theorem State.resetStep_opc (s : State) : s.resetStep.opc = State.reset.opc := rfl
@[simp] theorem State.resetStep_sub (s : State) : s.resetStep.sub = State.reset.sub := rfl
@[simp] theorem State.resetStep_phase (s : State) : s.resetStep.phase = State.reset.phase := rfl
@[simp] theorem State.resetStep_pollCnt (s : State) : s.resetStep.pollCnt = State.reset.pollCnt := rfl
@[simp] theorem State.resetStep_raw (s : State) : s.resetStep.raw = State.reset.raw := rfl
@[simp] theorem State.resetStep_hPmbar (s : State) : s.resetStep.hPmbar = State.reset.hPmbar := rfl
@[simp] theorem State.resetStep_hTc (s : State) : s.resetStep.hTc = State.reset.hTc := rfl
@[simp] theorem State.resetStep_resKind (s : State) : s.resetStep.resKind = State.reset.resKind := rfl
@[simp] theorem State.resetStep_v0 (s : State) : s.resetStep.v0 = State.reset.v0 := rfl
@[simp] theorem State.resetStep_v1 (s : State) : s.resetStep.v1 = State.reset.v1 := rfl
@[simp] theorem State.resetStep_v2 (s : State) : s.resetStep.v2 = State.reset.v2 := rfl
@[simp] theorem State.resetStep_errKind (s : State) : s.resetStep.errKind = State.reset.errKind := rfl
@[simp] theorem State.resetStep_errCause (s : State) : s.resetStep.errCause = State.reset.errCause := rfl
@[simp] theorem State.resetStep_errInfo (s : State) : s.resetStep.errInfo = State.reset.errInfo := rfl
@[simp] theorem State.resetStep_cmdPort (s : State) : s.resetStep.cmdPort = s.cmdPort := rfl
@[simp] theorem State.resetStep_host (s : State) : s.resetStep.host = s.host := rfl
@[simp] theorem State.resetStep_answers (s : State) : s.resetStep.answers = s.answers := rfl
@[simp] theorem State.resetStep_outstanding (s : State) : s.resetStep.outstanding = State.reset.outstanding := rfl
@[simp] theorem State.resetStep_trace (s : State) : s.resetStep.trace = s.trace ++ abandon s.outstanding := rfl
@[simp] theorem State.resetStep_free (s : State) : s.resetStep.free = s.free := rfl

end Sys2Proof.Machine
end

