-- ==== Sys2Proof/Laws/Ops.lean ====
section
/-! SUPPORT. One lemma per shared operation, saying once all it can do, and one inversion of the step (`step_move`): what
a step that goes on has done. -/

namespace Sys2Proof.Machine

/-! ### Shared operations -/

/-- The next answer to come says `r` to `t`, and `rest` comes after it. -/
def State.answerIs (s : State) (t : Txn) (r : Reply) (rest : List Answer) : Prop :=
  (s.answers = .busError :: rest ∧ r = .busError) ∨ ∃ bytes, s.answers = .ok bytes :: rest ∧ r = t.judge bytes

/-- No answer comes in this step, and `rest` comes after it. -/
def State.noAnswer (s : State) (rest : List Answer) : Prop :=
  (s.answers = [] ∧ rest = []) ∨ s.answers = .silent :: rest

theorem exchange_cases (s : State) (t : Txn) (f : Reply → State → State) :
    (∃ rest, s.noAnswer rest ∧ s.exchange t f = s.waiting t rest) ∨
      ∃ r rest, s.answerIs t r rest ∧ s.exchange t f = f r (s.answered t r rest) := by
  unfold State.exchange
  split <;> rename_i h
  · exact .inl ⟨_, .inl ⟨h, rfl⟩, rfl⟩
  · exact .inl ⟨_, .inr h, rfl⟩
  · exact .inr ⟨_, _, .inl ⟨h, rfl⟩, rfl⟩
  · exact .inr ⟨_, _, .inr ⟨_, h, rfl⟩, rfl⟩

theorem exchange_ok {s : State} {t : Txn} {f : Reply → State → State} {bytes : List Byte} {rest : List Answer}
    (h : s.answers = .ok bytes :: rest) :
    s.exchange t f = f (t.judge bytes) (s.answered t (t.judge bytes) rest) := by
  simp [State.exchange, h]

theorem exchange_busError {s : State} {t : Txn} {f : Reply → State → State} {rest : List Answer}
    (h : s.answers = .busError :: rest) :
    s.exchange t f = f .busError (s.answered t .busError rest) := by
  simp [State.exchange, h]

theorem exchange_silent {s : State} {t : Txn} {f : Reply → State → State} {rest : List Answer}
    (h : s.answers = .silent :: rest) : s.exchange t f = s.waiting t rest := by
  simp [State.exchange, h]

theorem exchange_nil {s : State} {t : Txn} {f : Reply → State → State} (h : s.answers = []) :
    s.exchange t f = s.waiting t [] := by
  simp [State.exchange, h]

theorem transact_of_request {s : State} {t : Txn} (f : Reply → State → State) (h : s.request = some t) :
    s.transact t f = .next (s.exchange t f) := by
  simp [State.transact, h]

theorem transact_next {s s' : State} {t : Txn} {f : Reply → State → State} (h : s.transact t f = .next s') :
    s.request = some t ∧ s' = s.exchange t f := by
  unfold State.transact at h
  split at h
  · rename_i hr
    cases h
    exact ⟨hr, rfl⟩
  · cases h

theorem receive_next {s s' : State} {t : Txn} {b : Byte} {f : State → State} (h : s.receive t b f = .next s') :
    s.answeredWith t b = true ∧ s' = f (s.answered t (.ok [b]) s.answers.tail) := by
  unfold State.receive at h
  split at h
  · rename_i hr
    cases h
    exact ⟨hr, rfl⟩
  · cases h

theorem decodeStep_of_sample {s : State} {p : Place} {bytes : List Byte} (after : State)
    (h : s.sample = some (p, bytes)) : s.decodeStep p bytes after = .next after := by
  simp [State.decodeStep, h]

theorem decodeStep_next {s s' after : State} {p : Place} {bytes : List Byte}
    (h : s.decodeStep p bytes after = .next s') : s.sample = some (p, bytes) ∧ s' = after := by
  unfold State.decodeStep at h
  split at h
  · rename_i hr
    cases h
    exact ⟨hr, rfl⟩
  · cases h

theorem command_idle {s : State} (op : Byte) (f : State → State) (h : s.busy = false) :
    s.command op f = .next (f (s.accept op)) := by
  simp [State.command, h]

theorem command_busy {s : State} (op : Byte) (f : State → State) (h : s.busy = true) :
    s.command op f = .next s := by
  simp [State.command, h]

theorem hostTurn_fst (s : State) :
    ∃ port, s.hostTurn.1 = { s with host := s.host.tail, cmdPort := port } := by
  unfold State.hostTurn
  split <;> rename_i h
  · exact ⟨s.cmdPort, by cases s; simp_all⟩
  all_goals exact ⟨_, by simp [h]; rfl⟩

/-! ### What a step can do -/

/-- The moves of 42_operations R176, one constructor per arrow of the sequencer (with its failing branch inside the named
operation), and the two waits of 70 R245 and of an idle block. -/
inductive BlockMove (s : State) : State → Prop where
  | rest (hst : s.st = .idle) : BlockMove s s
  | illegal (a op : Byte) (hst : s.st = .idle) (hb : s.busy = false) (hp : s.cmdPort = some (a ++ op))
      (hop : namedOpcode op = false) :
      BlockMove s ((s.accept op).raise .illegalCommand false op)
  | construct (a : Byte) (hst : s.st = .idle) (hb : s.busy = false) (hp : s.cmdPort = some (a ++ 0x01#8)) :
      BlockMove s { s.accept 0x01#8 with devAddr := a, identOk := false, busy := true, st := .single }
  | acquire (a op : Byte) (hst : s.st = .idle) (hb : s.busy = false) (hp : s.cmdPort = some (a ++ op))
      (hop : op = 0x02#8 ∨ op = 0x03#8 ∨ op = 0x04#8 ∨ op = 0x05#8) :
      BlockMove s ((s.accept op).beginIn .configWritten)
  | standby (a : Byte) (hst : s.st = .idle) (hb : s.busy = false) (hp : s.cmdPort = some (a ++ 0x06#8)) :
      BlockMove s ((s.accept 0x06#8).beginIn .single)
  | wait (t : Txn) (rest : List Answer) (hr : s.request = some t) (ha : s.noAnswer rest) :
       BlockMove s (s.waiting t rest)
  | identity (r : Reply) (rest : List Answer) (hst : s.st = .single) (hop : s.opc = 0x01#8)
      (ha : s.answerIs (.rd s.devAddr 0x0C#8 1#8) r rest) :
      BlockMove s (State.afterIdentity r (s.answered (.rd s.devAddr 0x0C#8 1#8) r rest))
  | standbyWrite (r : Reply) (rest : List Answer) (hst : s.st = .single) (hop : s.opc = 0x06#8)
      (ha : s.answerIs (.wr s.devAddr 0x26#8 0x38#8) r rest) :
      BlockMove s (State.afterStandby r (s.answered (.wr s.devAddr 0x26#8 0x38#8) r rest))
  | ptcfg (r : Reply) (rest : List Answer) (hst : s.st = .configWritten) (hsub : s.sub = false)
      (ha : s.answerIs (.wr s.devAddr 0x13#8 0x07#8) r rest) :
      BlockMove s (State.afterPtcfg r (s.answered (.wr s.devAddr 0x13#8 0x07#8) r rest))
  | ctrl (c : Cycle) (r : Reply) (rest : List Answer) (hst : s.st = .configWritten) (hsub : s.sub = true)
      (hc : s.cycle = some c)
      (ha : s.answerIs (.wr s.devAddr 0x26#8 c.ctrlPat) r rest) :
      BlockMove s (State.afterCtrl r (s.answered (.wr s.devAddr 0x26#8 c.ctrlPat) r rest))
  | status (r : Reply) (rest : List Answer) (hst : s.st = .polling)
      (ha : s.answerIs (.rd s.devAddr 0x00#8 1#8) r rest) :
      BlockMove s (State.afterStatus Config.pollMax r (s.answered (.rd s.devAddr 0x00#8 1#8) r rest))
  | burst (c : Cycle) (r : Reply) (rest : List Answer) (hst : s.st = .dataReady) (hc : s.cycle = some c)
      (ha : s.answerIs (.rd s.devAddr c.start c.count) r rest) :
      BlockMove s (State.afterBurst c.start r (s.answered (.rd s.devAddr c.start c.count) r rest))
  | pressure (hst : s.st = .decoded) (hop : s.opc = 0x02#8) :
      BlockMove s (s.deliverPressure s.raw.b0 s.raw.b1 s.raw.b2)
  | altitude (hst : s.st = .decoded) (hop : s.opc = 0x03#8) :
      BlockMove s (s.deliverAltitude s.raw.b0 s.raw.b1 s.raw.b2)
  | temp (hst : s.st = .decoded) (hop : s.opc = 0x04#8) :
      BlockMove s (s.deliverTemp s.raw.b0 s.raw.b1)
  | hold (hst : s.st = .decoded) (hop : s.opc = 0x05#8) (hph : s.phase = false) :
      BlockMove s (s.holdSample s.raw.b0 s.raw.b1 s.raw.b2 s.raw.b3 s.raw.b4)
  | slp (hst : s.st = .decoded) (hop : s.opc = 0x05#8) (hph : s.phase = true) :
      BlockMove s (s.deliverSlp s.raw.b0 s.raw.b1 s.raw.b2)

theorem unnamed_of_ne {op : Byte} (h1 : op ≠ 0x01#8) (h2 : op ≠ 0x02#8) (h3 : op ≠ 0x03#8) (h4 : op ≠ 0x04#8)
    (h5 : op ≠ 0x05#8) (h6 : op ≠ 0x06#8) : namedOpcode op = false := by
  simp only [namedOpcode, Bool.and_eq_false_iff, decide_eq_false_iff_not, BitVec.not_le]
  bv_omega

theorem word_eq_bytes (w : CommandWord) : w = (w.extractLsb' 8 8 ++ w.extractLsb' 0 8 : CommandWord) := by
  apply BitVec.eq_of_getLsbD_eq
  intro i hi
  change w.getLsbD i = BitVec.getLsbD (w.extractLsb' 8 8 ++ w.extractLsb' 0 8 : BitVec (8 + 8)) i
  rw [BitVec.getLsbD_append]
  by_cases h : i < 8
  · simp [h]
  · have h8 : i - 8 < 8 := by omega
    have h9 : 8 + (i - 8) = i := by omega
    simp [h, h8, h9]

theorem command_move {s s' : State} {a op : Byte} (hst : s.st = .idle) (hp : s.cmdPort = some (a ++ op))
    (h : exec (decodeCommand a op) s = .next s') : BlockMove s s' := by
  by_cases hb : s.busy = true
  · have hs : s' = s := by
      unfold decodeCommand at h
      split_ifs at h <;>
        simpa [exec, execConstruct, execGetPressure, execGetAltitude, execGetTemp, execGetSlp, execStandby, execIllegal,
          State.command, hb] using h.symm
    subst hs
    exact .rest hst
  · have hb' : s.busy = false := by simpa using hb
    unfold decodeCommand at h
    split_ifs at h <;>
      simp only [exec, execConstruct, execGetPressure, execGetAltitude, execGetTemp, execGetSlp, execStandby,
        execIllegal, command_idle _ _ hb', Host.Outcome.next.injEq] at h <;> subst h
    · rename_i h1
      exact .construct a hst hb' (h1 ▸ hp)
    · rename_i h1
      exact .acquire a _ hst hb' (h1 ▸ hp) (by simp)
    · rename_i h1
      exact .acquire a _ hst hb' (h1 ▸ hp) (by simp)
    · rename_i h1
      exact .acquire a _ hst hb' (h1 ▸ hp) (by simp)
    · rename_i h1
      exact .acquire a _ hst hb' (h1 ▸ hp) (by simp)
    · rename_i h1
      exact .standby a hst hb' (h1 ▸ hp)
    · refine .illegal a op hst hb' hp ?_
      exact unnamed_of_ne ‹_› ‹_› ‹_› ‹_› ‹_› ‹_›

/-- The transaction rows answer with the move of the sequencer's state. -/
theorem exchange_move {s : State} {t : Txn} {f : Reply → State → State} (hr : s.request = some t)
    (hf : ∀ r rest, s.answerIs t r rest → BlockMove s (f r (s.answered t r rest))) :
    BlockMove s (s.exchange t f) := by
  rcases exchange_cases s t f with ⟨rest, ha, h⟩ | ⟨r, rest, ha, h⟩
  · exact h ▸ .wait t rest hr ha
  · exact h ▸ hf r rest ha

/-- What R162 gives, row by row. -/
theorem cycle_cases {s : State} {c : Cycle} (h : s.cycle = some c) :
    (s.opc = 0x02#8 ∧ s.phase = false ∧ c = ⟨0x39#8, 0x01#8, 3#8, .pressure⟩) ∨
    (s.opc = 0x03#8 ∧ s.phase = false ∧ c = ⟨0xB9#8, 0x01#8, 3#8, .altitude⟩) ∨
    (s.opc = 0x04#8 ∧ s.phase = false ∧ c = ⟨0x39#8, 0x04#8, 2#8, .temperature⟩) ∨
    (s.opc = 0x05#8 ∧ s.phase = false ∧ c = ⟨0x39#8, 0x01#8, 5#8, .pressureTemperature⟩) ∨
    (s.opc = 0x05#8 ∧ s.phase = true ∧ c = ⟨0xB9#8, 0x01#8, 3#8, .altitude⟩) := by
  unfold State.cycle cycleOf at h
  split_ifs at h <;> simp_all

theorem blockStep_move {s s' : State} (h : blockStep s = .next s') : BlockMove s s' := by
  unfold blockStep at h
  cases hst : s.st with
  | idle =>
    cases hp : s.cmdPort with
    | none =>
      simp [State.fetch, hst, hp] at h
      exact h ▸ .rest hst
    | some cw =>
      simp only [State.fetch, hst, hp, bytes16, decode] at h
      exact command_move hst (hp.trans (congrArg some (word_eq_bytes cw))) h
  | single =>
    by_cases h1 : s.opc = 0x01#8
    · have hr : s.request = some (.rd s.devAddr 0x0C#8 1#8) := by simp [State.request, hst, h1]
      simp [State.fetch, hst, hr, Txn.place, Txn.bytes, decode, decodeRead, exec, execRdWhoami,
        transact_of_request _ hr] at h
      exact h ▸ exchange_move hr fun r rest ha => .identity r rest hst h1 ha
    · by_cases h6 : s.opc = 0x06#8
      · have hr : s.request = some (.wr s.devAddr 0x26#8 0x38#8) := by simp [State.request, hst, h6]
        simp [State.fetch, hst, hr, Txn.place, Txn.bytes, decode, decodeWrite, exec, execWrCtrlStby,
          transact_of_request _ hr] at h
        exact h ▸ exchange_move hr fun r rest ha => .standbyWrite r rest hst h6 ha
      · simp [State.fetch, hst, State.request, h1, h6] at h
  | configWritten =>
    cases hsub : s.sub with
    | false =>
      have hr : s.request = some (.wr s.devAddr 0x13#8 0x07#8) := by simp [State.request, hst, hsub]
      simp [State.fetch, hst, hr, Txn.place, Txn.bytes, decode, decodeWrite, exec, execWrPtcfg,
        transact_of_request _ hr] at h
      exact h ▸ exchange_move hr fun r rest ha => .ptcfg r rest hst hsub ha
    | true =>
      cases hc : s.cycle with
      | none => simp [State.fetch, hst, State.request, hsub, hc] at h
      | some c =>
        have hr : s.request = some (.wr s.devAddr 0x26#8 c.ctrlPat) := by simp [State.request, hst, hsub, hc]
        have hm : BlockMove s (s.exchange (.wr s.devAddr 0x26#8 c.ctrlPat) State.afterCtrl) :=
          exchange_move hr fun r rest ha => .ctrl c r rest hst hsub hc ha
        rcases cycle_cases hc with ⟨-, -, rfl⟩ | ⟨-, -, rfl⟩ | ⟨-, -, rfl⟩ | ⟨-, -, rfl⟩ | ⟨-, -, rfl⟩ <;>
        · simp [State.fetch, hst, hr, Txn.place, Txn.bytes, decode, decodeWrite, exec, execWrCtrlBaro, execWrCtrlAlt,
            transact_of_request _ hr] at h
          exact h ▸ hm
  | polling =>
    have hr : s.request = some (.rd s.devAddr 0x00#8 1#8) := by simp [State.request, hst]
    simp [State.fetch, hst, hr, Txn.place, Txn.bytes, decode, decodeRead, exec, execRdStatus,
      transact_of_request _ hr] at h
    exact h ▸ exchange_move hr fun r rest ha => .status r rest hst ha
  | dataReady =>
    cases hc : s.cycle with
    | none => simp [State.fetch, hst, State.request, hc] at h
    | some c =>
      have hr : s.request = some (.rd s.devAddr c.start c.count) := by simp [State.request, hst, hc]
      have hm : BlockMove s (s.exchange (.rd s.devAddr c.start c.count) (State.afterBurst c.start)) :=
        exchange_move hr fun r rest ha => .burst c r rest hst hc ha
      rcases cycle_cases hc with ⟨-, -, rfl⟩ | ⟨-, -, rfl⟩ | ⟨-, -, rfl⟩ | ⟨-, -, rfl⟩ | ⟨-, -, rfl⟩ <;>
      · simp [State.fetch, hst, hr, Txn.place, Txn.bytes, decode, decodeRead, exec, execRdP3, execRdT2, execRdPt5,
          transact_of_request _ hr] at h
        exact h ▸ hm
  | decoded =>
    cases hc : s.cycle with
    | none => simp [State.fetch, hst, State.sample, hc] at h
    | some c =>
      have hs : s.sample = some (c.layout, s.sampleBytes c.layout) := by simp [State.sample, hst, hc]
      rcases cycle_cases hc with ⟨hop, hph, rfl⟩ | ⟨hop, hph, rfl⟩ | ⟨hop, hph, rfl⟩ | ⟨hop, hph, rfl⟩ | ⟨hop, hph, rfl⟩ <;>
        simp only [State.fetch, hst, hs, State.sampleBytes, decode, decodePressure, decodeAltitude, decodeTemperature,
          decodePressureTemperature, exec, execS3Pressure, execS3Altitude, execS2Temperature,
          execS5PressureTemperature] at h <;>
        obtain ⟨hm, rfl⟩ := decodeStep_next h <;>
        simp only [hs, State.sampleBytes, bytes24, bytes16, bytes40, Option.some.injEq, Prod.mk.injEq, List.cons.injEq,
          true_and, and_true] at hm
      · obtain ⟨e0, e1, e2⟩ := hm
        rw [← e0, ← e1, ← e2]
        exact .pressure hst hop
      · obtain ⟨e0, e1, e2⟩ := hm
        rw [← e0, ← e1, ← e2, if_neg (by rw [hop]; decide)]
        exact .altitude hst hop
      · obtain ⟨e0, e1⟩ := hm
        rw [← e0, ← e1]
        exact .temp hst hop
      · obtain ⟨e0, e1, e2, e3, e4⟩ := hm
        rw [← e0, ← e1, ← e2, ← e3, ← e4]
        exact .hold hst hop hph
      · obtain ⟨e0, e1, e2⟩ := hm
        rw [← e0, ← e1, ← e2, if_pos hop]
        exact .slp hst hop hph

/-- What a step that goes on has done: the host's reset took it, or the block made one of its moves after the host's
turn. -/
theorem step_move {s s' : State} (h : step s = .next s') :
    (s.hostTurn.2 = true ∧ s' = s.hostTurn.1.resetStep) ∨
      (s.hostTurn.2 = false ∧ BlockMove s.hostTurn.1 s') := by
  unfold step at h
  split at h
  · rename_i hr
    cases h
    exact .inl ⟨hr, rfl⟩
  · rename_i hr
    exact .inr ⟨by simpa using hr, blockStep_move h⟩

end Sys2Proof.Machine
end

