-- ==== Sys2Proof/Laws/PerInstr.lean ====
section
/-! SUPPORT. What holds of every row of the table as syntax: its word has the length of its place (30_encoding R80, R84,
R85, R89 to R91, R97). -/

namespace Sys2Proof.Laws.Row

def Statement (i : Instr) : Prop := (encode i).length = i.place.bytes

theorem construct (a : Byte) : Statement (.construct a) := rfl
theorem getPressure (a : Byte) : Statement (.getPressure a) := rfl
theorem getAltitude (a : Byte) : Statement (.getAltitude a) := rfl
theorem getTemp (a : Byte) : Statement (.getTemp a) := rfl
theorem getSlp (a : Byte) : Statement (.getSlp a) := rfl
theorem standby (a : Byte) : Statement (.standby a) := rfl
theorem illegal (a op : Byte) : Statement (.illegal a op) := rfl
theorem rdWhoami (d : Byte) : Statement (.rdWhoami d) := rfl
theorem wrPtcfg (d : Byte) : Statement (.wrPtcfg d) := rfl
theorem wrCtrlBaro (d : Byte) : Statement (.wrCtrlBaro d) := rfl
theorem wrCtrlAlt (d : Byte) : Statement (.wrCtrlAlt d) := rfl
theorem wrCtrlStby (d : Byte) : Statement (.wrCtrlStby d) := rfl
theorem rdStatus (d : Byte) : Statement (.rdStatus d) := rfl
theorem rdP3 (d : Byte) : Statement (.rdP3 d) := rfl
theorem rdT2 (d : Byte) : Statement (.rdT2 d) := rfl
theorem rdPt5 (d : Byte) : Statement (.rdPt5 d) := rfl
theorem idMpl3115a2 : Statement (.idMpl3115a2) := rfl
theorem ptcfgEnable : Statement (.ptcfgEnable) := rfl
theorem ctrlBaroActive : Statement (.ctrlBaroActive) := rfl
theorem ctrlAltActive : Statement (.ctrlAltActive) := rfl
theorem ctrlStandby : Statement (.ctrlStandby) := rfl
theorem statusReady (hi : BitVec 4) (lo : BitVec 3) : Statement (.statusReady hi lo) := rfl
theorem statusNotReady (hi : BitVec 4) (lo : BitVec 3) : Statement (.statusNotReady hi lo) := rfl
theorem s3Pressure (int : BitVec 18) (frac : BitVec 2) (low : BitVec 4) : Statement (.s3Pressure int frac low) := rfl
theorem s3Altitude (sign : BitVec 1) (int : BitVec 15) (frac : BitVec 4) (low : BitVec 4) : Statement (.s3Altitude sign int frac low) := rfl
theorem s2Temperature (sign : BitVec 1) (int : BitVec 7) (frac : BitVec 4) (low : BitVec 4) : Statement (.s2Temperature sign int frac low) := rfl
theorem s5PressureTemperature (int : BitVec 18) (frac : BitVec 2) (low : BitVec 4)
    (tsign : BitVec 1) (tint : BitVec 7) (tfrac tlow : BitVec 4) : Statement (.s5PressureTemperature int frac low tsign tint tfrac tlow) := rfl

end Sys2Proof.Laws.Row
end

