-- ==== Sys2Proof/Laws/Run.lean ====
section
/-! SUPPORT. Runs of several steps, taken apart. They are proved for any `Host.Core`, because the equations of
`Host.Core.run` do not rewrite where the core is written out, and then stated for `core`. -/

namespace Sys2Proof.Laws

theorem coreRun_succ (M : Host.Core) (k : Nat) (s t : M.State) (h : M.step s = .next t) :
    Host.Core.run M (k + 1) s = Host.Core.run M k t := by
  rw [Host.Core.run, h]

theorem coreRun_add (M : Host.Core) (j k : Nat) (s t : M.State) (h : Host.Core.run M j s = .next t) :
    Host.Core.run M (j + k) s = Host.Core.run M k t := by
  induction j generalizing s with
  | zero =>
    cases h
    rw [Nat.zero_add]
  | succ j ih =>
    rw [Nat.add_right_comm]
    rw [Host.Core.run] at h
    cases hs : M.step s with
    | next u =>
      rw [hs] at h
      rw [coreRun_succ M _ _ _ hs]
      exact ih u h
    | fault r =>
      rw [hs] at h
      cases h
    | refused r =>
      rw [hs] at h
      cases h

theorem run_zero (s : Machine.State) : Host.Core.run core 0 s = .next s := rfl

theorem run_succ {s t : Machine.State} (k : Nat) (h : Machine.step s = .next t) :
    Host.Core.run core (k + 1) s = Host.Core.run core k t :=
  coreRun_succ core k s t h

theorem run_add {s t : Machine.State} (j k : Nat) (h : Host.Core.run core j s = .next t) :
    Host.Core.run core (j + k) s = Host.Core.run core k t :=
  coreRun_add core j k s t h

end Sys2Proof.Laws
end

