-- ==== Sys2Proof/Tests/Slice0.lean ====
section
/-! SUPPORT. Small tests of the model, with expected values from the spec (section and vector named at each), and for every
statement with hypotheses a witness (`witness_…`): a concrete state and operands that meet them together. -/

namespace Sys2Proof.Tests

open Sys2Proof Sys2Proof.Machine

/-! ### Well-formedness (30_encoding R82) -/

theorem test_illegal_row_refuses_named_opcodes :
    (Instr.illegal 0x12#8 0x01#8).wellFormed = false ∧ (Instr.illegal 0x12#8 0x06#8).wellFormed = false := by decide

theorem test_illegal_row_takes_unnamed_opcodes :
    (Instr.illegal 0x12#8 0x00#8).wellFormed = true ∧ (Instr.illegal 0x12#8 0x07#8).wellFormed = true := by decide

/-! ### Words, written out from 30_encoding (95_test_vectors B6, B7 for commands and transactions) -/

theorem test_decode_commands :
    decode .command [0x60#8, 0x01#8] = .ok (.construct 0x60#8) ∧
    decode .command [0x00#8, 0x02#8] = .ok (.getPressure 0x00#8) ∧
    decode .command [0xFF#8, 0x03#8] = .ok (.getAltitude 0xFF#8) ∧
    decode .command [0xAB#8, 0x04#8] = .ok (.getTemp 0xAB#8) ∧
    decode .command [0x00#8, 0x05#8] = .ok (.getSlp 0x00#8) ∧
    decode .command [0x00#8, 0x06#8] = .ok (.standby 0x00#8) ∧
    decode .command [0x12#8, 0xFF#8] = .ok (.illegal 0x12#8 0xFF#8) := by decide

theorem test_decode_transactions :
    decode .readTxn [0x60#8, 0x0C#8, 1#8] = .ok (.rdWhoami 0x60#8) ∧
    decode .writeTxn [0x60#8, 0x13#8, 0x07#8] = .ok (.wrPtcfg 0x60#8) ∧
    decode .writeTxn [0x60#8, 0x26#8, 0x39#8] = .ok (.wrCtrlBaro 0x60#8) ∧
    decode .writeTxn [0x60#8, 0x26#8, 0xB9#8] = .ok (.wrCtrlAlt 0x60#8) ∧
    decode .writeTxn [0x60#8, 0x26#8, 0x38#8] = .ok (.wrCtrlStby 0x60#8) ∧
    decode .readTxn [0x60#8, 0x00#8, 1#8] = .ok (.rdStatus 0x60#8) ∧
    decode .readTxn [0x60#8, 0x01#8, 3#8] = .ok (.rdP3 0x60#8) ∧
    decode .readTxn [0x60#8, 0x04#8, 2#8] = .ok (.rdT2 0x60#8) ∧
    decode .readTxn [0x60#8, 0x01#8, 5#8] = .ok (.rdPt5 0x60#8) := by decide

theorem test_decode_patterns :
    decode .whoAmI [0b11000100#8] = .ok .idMpl3115a2 ∧
    decode .ptDataCfg [0b00000111#8] = .ok .ptcfgEnable ∧
    decode .ctrlReg1 [0b00111001#8] = .ok .ctrlBaroActive ∧
    decode .ctrlReg1 [0b10111001#8] = .ok .ctrlAltActive ∧
    decode .ctrlReg1 [0b00111000#8] = .ok .ctrlStandby ∧
    decode .status [0b01011110#8] = .ok (.statusReady 0b0101#4 0b110#3) ∧
    decode .status [0b11110111#8] = .ok (.statusNotReady 0b1111#4 0b111#3) := by decide

theorem test_decode_samples :
    decode .pressure [0b01100010#8, 0b11110011#8, 0b01010110#8] =
      .ok (.s3Pressure 0b011000101111001101#18 0b01#2 0b0110#4) ∧
    decode .altitude [0b11111111#8, 0b10011100#8, 0b00110101#8] =
      .ok (.s3Altitude 1#1 0b111111110011100#15 0b0011#4 0b0101#4) ∧
    decode .temperature [0b11101100#8, 0b10000001#8] = .ok (.s2Temperature 1#1 0b1101100#7 0b1000#4 0b0001#4) ∧
    decode .pressureTemperature [0b01100010#8, 0b11110011#8, 0b01010110#8, 0b11101100#8, 0b10000001#8] =
      .ok (.s5PressureTemperature 0b011000101111001101#18 0b01#2 0b0110#4 1#1 0b1101100#7 0b1000#4 0b0001#4) := by
  decide

theorem test_decode_refuses_what_is_no_word :
    decode .writeTxn [0x60#8, 0x26#8, 0x3B#8] = .error .noSuchTransaction ∧
    decode .readTxn [0x60#8, 0x01#8, 4#8] = .error .noSuchTransaction ∧
    decode .whoAmI [0xC5#8] = .error .noSuchPattern ∧
    decode .ctrlReg1 [0x00#8] = .error .noSuchPattern ∧
    decode .pressure [0x60#8] = .error .wrongLength := by decide

/-! ### The unpacker and the conditions (95_test_vectors B1 to B5) -/

/-- V14: byte order, the most significant first. -/
theorem test_asm32 : asm32 0x12#8 0x34#8 0x56#8 = 0x12345600#32 := by decide

/-- V11, V12: pressure is unsigned. -/
theorem test_decP : decP 0x80#8 0x00#8 0x00#8 = ⟨0x80000000, 16384⟩ ∧ decP 0xFF#8 0xFF#8 0xF0#8 = ⟨4294963200, 16384⟩ := by
  decide

/-- V24, V30: altitude is signed at bit 31. -/
theorem test_decA : decA 0xFF#8 0xFF#8 0xF0#8 = ⟨-4096, 65536⟩ ∧ decA 0xFF#8 0x9C#8 0x00#8 = ⟨-6553600, 65536⟩ := by decide

/-- V48, V45: the fraction adds to the signed integer part. -/
theorem test_decT : decT 0xEC#8 0x80#8 = ⟨-4992, 256⟩ ∧ decT 0xFF#8 0xF0#8 = ⟨-16, 256⟩ := by decide

/-- V55 to V64. -/
theorem test_conditions :
    idChk 0xC4#8 = true ∧ idChk 0xC5#8 = false ∧ rdy 0x08#8 = true ∧ rdy 0xF7#8 = false ∧ rdy 0x06#8 = false := by decide

/-- 20_memory R52, R58: the five-byte burst reads registers 0x01 to 0x05; BAR_IN_MSB is in the map and never touched. -/
theorem test_register_map :
    (Txn.rd 0x60#8 0x01#8 5#8).registers = [0x01#8, 0x02#8, 0x03#8, 0x04#8, 0x05#8] ∧
    SensorReg.outTLsb.addr = 0x05#8 ∧ SensorReg.barInMsb.addr = 0x14#8 ∧ SensorReg.barInMsb.blockReads = false := by decide

/-! ### The converter (41_convert R133; 95_test_vectors B1 to B4), significands and exponents of the binary64 figures -/

/-- R133: the six literals that are no binary64 number, in its hexadecimal notation. -/
theorem test_literals :
    kFt = ⟨0x1a3f7ced916873, 1 - 52⟩ ∧ kInHgMb = ⟨0x10ee978d4fdf3b, 5 - 52⟩ ∧ kPsiMb = ⟨0x113cac083126e9, 6 - 52⟩ ∧
    kKelvin = ⟨0x11126666666666, 8 - 52⟩ ∧ kG = ⟨0x139d013a92a305, 3 - 52⟩ ∧ kRd = ⟨0x11f0cccccccccd, 8 - 52⟩ := by decide

/-- V8. -/
theorem test_convP : convP (ofExact (decP 0x62#8 0xF3#8 0x40#8)) =
    ⟨⟨8912641254752256, -43⟩, ⟨8423051392559722, -48⟩, ⟨8272792462714204, -49⟩⟩ := by decide

/-- V29, V26: the product may differ from the decimal one in the last place; the sign carries through. -/
theorem test_convA : convA (ofExact (decA 0x05#8 0x39#8 0x80#8)) =
      (⟨5882387208601600, -42⟩, ⟨4825028107855463, -40⟩) ∧
    (convA (ofExact (decA 0x80#8 0x00#8 0x00#8))).2 = ⟨-7388155188701299, -36⟩ := by decide

/-- V48. -/
theorem test_convT : convT (ofExact (decT 0xEC#8 0x80#8)) =
    ⟨⟨-5488762045857792, -48⟩, ⟨-6980579422424272, -51⟩, ⟨8924515980332236, -45⟩⟩ := by decide

/-- V43: the exponent of the formula. -/
theorem test_slpExponent :
    slpExponent (ofExact (decT 0x0F#8 0x00#8)) (ofExact (decA 0x02#8 0x1C#8 0x00#8)) = ⟨4613367135195683, -56⟩ := by decide

/-! ### Small states -/

/-- The block constructed at 0x60 and idle. -/
def ready : State := { State.reset with devAddr := 0x60#8, identOk := true }

/-- The block in a state of a command's run, with the answers to come. -/
def inState (st : SeqState) (op : Byte) (answers : List Answer) : State :=
  { ready with busy := true, st := st, opc := op, answers := answers }

/-- CONSTRUCT before its identity read. -/
def identifying (answers : List Answer) : State :=
  { State.reset with devAddr := 0x60#8, busy := true, st := .single, opc := 0x01#8, answers := answers }

/-- A word on the command port. -/
def withPort (s : State) (w : CommandWord) : State := { s with cmdPort := some w }

/-- The block before the Decoded step on a sample. -/
def decoding (op : Byte) (b0 b1 b2 b3 b4 : Byte) : State := { inState .decoded op [] with raw := ⟨b0, b1, b2, b3, b4⟩ }

/-- What stands in the state an outcome gives. -/
def seen {α : Type} (o : Host.Outcome State Fault Refusal) (f : State → α) : Option α :=
  match o with
  | .next s => some (f s)
  | .fault _ => none
  | .refused _ => none

theorem allows_zero (b : PollBound) : b.allows 0 = true := by
  cases b <;> simp [PollBound.allows]; assumption

theorem ready_inv : ready.Inv := by constructor <;> simp [ready, State.reset, SeqState.inCycle]

theorem inState_inv {st : SeqState} {op : Byte} (answers : List Answer) (h : st.inCycle = true)
    (hop : acquisitionOpcode op = true) : (inState st op answers).Inv := by
  constructor <;> simp [inState, ready, State.reset, allows_zero, hop] <;> rintro rfl <;> simp [SeqState.inCycle] at h

theorem identifying_inv (answers : List Answer) : (identifying answers).Inv := by
  constructor <;> simp [identifying, State.reset, SeqState.inCycle]

/-! ### One step each (95_test_vectors P1 to P6, P9, B6, B8) -/

/-- P1 step 1; V71: CONSTRUCT on a constructed block clears IDENT_OK. -/
theorem test_construct :
    seen (step (withPort ready 0x6101#16)) (fun t => (t.st, t.busy, t.devAddr, t.identOk, t.opc)) =
      some (.single, true, 0x61#8, false, 0x01#8) := by decide

/-- P1 step 3. -/
theorem test_getPressure :
    seen (step (withPort ready 0x0002#16)) (fun t => (t.st, t.busy, t.done, t.sub, t.phase)) =
      some (.configWritten, true, false, false, false) := by decide

/-- V74: the operand is ignored. -/
theorem test_getAltitude :
    seen (step (withPort ready 0xFF03#16)) (fun t => (t.st, t.opc, t.devAddr)) = some (.configWritten, 0x03#8, 0x60#8) := by
  decide

/-- P2. -/
theorem test_getTemp :
    seen (step (withPort ready 0xAB04#16)) (fun t => (t.st, t.opc, t.identOk)) = some (.configWritten, 0x04#8, true) := by
  decide

/-- P3. -/
theorem test_getSlp :
    seen (step (withPort ready 0x0005#16)) (fun t => (t.st, t.opc, t.phase)) = some (.configWritten, 0x05#8, false) := by
  decide

/-- P5: STANDBY enters Single. V77: an unconstructed block refuses it. -/
theorem test_standby :
    seen (step (withPort ready 0x0006#16)) (fun t => (t.st, t.busy)) = some (.single, true) ∧
    seen (step (withPort State.reset 0x0006#16)) (fun t => (t.st, t.done, t.errKind, t.errInfo)) =
      some (.idle, true, .notConstructed, 0x06#8) := by decide

/-- V79: IllegalCommand wins over NotConstructed. V80: DEV_ADDR and IDENT_OK stay. -/
theorem test_illegal :
    seen (step (withPort State.reset 0x0007#16)) (fun t => (t.errKind, t.errInfo, t.busy)) =
      some (.illegalCommand, 0x07#8, false) ∧
    seen (step (withPort ready 0x12FF#16)) (fun t => (t.errKind, t.errInfo, t.devAddr, t.identOk)) =
      some (.illegalCommand, 0xFF#8, 0x60#8, true) := by decide

/-- P1 step 2, P5 rows 1 and 3. -/
theorem test_rdWhoami :
    seen (step (identifying [.ok [0xC4#8]])) (fun t => (t.identOk, t.st, t.errKind)) = some (true, .idle, .none) ∧
    seen (step (identifying [.ok [0xC5#8]])) (fun t => (t.identOk, t.errKind, t.errCause, t.errInfo)) =
      some (false, .identityMismatch, false, 0xC5#8) ∧
    seen (step (identifying [.busError])) (fun t => (t.identOk, t.errKind, t.errCause, t.errInfo)) =
      some (false, .identityMismatch, true, 0x00#8) := by decide

/-- P1 step 4. -/
theorem test_wrPtcfg :
    seen (step (inState .configWritten 0x02#8 [.ok []])) (fun t => (t.st, t.sub, t.trace)) =
      some (.configWritten, true, [.answered (.wr 0x60#8 0x13#8 0x07#8) (.ok [])]) := by decide

/-- P1 step 5; P6: the second write fails. -/
theorem test_wrCtrlBaro :
    seen (step { inState .configWritten 0x02#8 [.ok []] with sub := true }) (fun t => (t.st, t.sub, t.pollCnt)) =
      some (.polling, false, 0) ∧
    seen (step { inState .configWritten 0x02#8 [.busError] with sub := true }) (fun t => (t.st, t.errKind, t.errInfo)) =
      some (.idle, .busError, 0x26#8) := by decide

/-- P4. -/
theorem test_wrCtrlAlt :
    seen (step { inState .configWritten 0x03#8 [.ok []] with sub := true }) (fun t => (t.st, t.trace)) =
      some (.polling, [.answered (.wr 0x60#8 0x26#8 0xB9#8) (.ok [])]) := by decide

/-- P5, last row. -/
theorem test_wrCtrlStby :
    seen (step (inState .single 0x06#8 [.ok []])) (fun t => (t.st, t.done, t.writtenByte 0x60#8 0x26#8)) =
      some (.idle, true, some 0x38#8) := by decide

/-- P1 step 8; V88: a bus failure of the poll. -/
theorem test_rdStatus :
    seen (step (inState .polling 0x02#8 [.ok [0x08#8]])) (fun t => (t.st, t.pollCnt)) = some (.dataReady, 0) ∧
    seen (step (inState .polling 0x02#8 [.busError])) (fun t => (t.st, t.errKind, t.errInfo)) =
      some (.idle, .busError, 0x00#8) := by decide

/-- V81 to V84, V86: the last permitted read may succeed; a clear bit there is the timeout, and only with a bound. -/
theorem test_poll_budget :
    ((inState .polling 0x02#8 []).onStatus (.reads 1 (by decide)) 0x08#8).st = .dataReady ∧
    ((inState .polling 0x02#8 []).onStatus (.reads 1 (by decide)) 0x00#8).errKind = .acquisitionTimeout ∧
    ({ inState .polling 0x02#8 [] with pollCnt := 2 }.onStatus (.reads 3 (by decide)) 0xF7#8).errInfo = 0xF7#8 ∧
    ({ inState .polling 0x02#8 [] with pollCnt := 1 }.onStatus (.reads 3 (by decide)) 0x00#8).pollCnt = 2 ∧
    ({ inState .polling 0x02#8 [] with pollCnt := 19 }.onStatus .inf 0x00#8).pollCnt = 20 := by decide

/-- P1 step 9. -/
theorem test_rdP3 :
    seen (step (inState .dataReady 0x02#8 [.ok [0x62#8, 0xF3#8, 0x40#8]])) (fun t => (t.st, t.raw.b0, t.raw.b1, t.raw.b2)) =
      some (.decoded, 0x62#8, 0xF3#8, 0x40#8) := by decide

/-- P6, last row: a short answer is a bus failure. -/
theorem test_rdT2 :
    seen (step (inState .dataReady 0x04#8 [.ok [0x19#8]])) (fun t => (t.st, t.errKind, t.errInfo)) =
      some (.idle, .busError, 0x04#8) := by decide

/-- P3, cycle 0. -/
theorem test_rdPt5 :
    seen (step (inState .dataReady 0x05#8 [.ok [0x5C#8, 0xC6#8, 0x00#8, 0x0F#8, 0x00#8]])) (fun t => (t.st, t.raw)) =
      some (.decoded, ⟨0x5C#8, 0xC6#8, 0x00#8, 0x0F#8, 0x00#8⟩) := by decide

/-- P1 step 10 (V8). -/
theorem test_s3Pressure :
    seen (step (decoding 0x02#8 0x62#8 0xF3#8 0x40#8 0 0)) (fun t => (t.st, t.busy, t.done, t.resKind, t.v1)) =
      some (.idle, false, true, .pressure, ⟨8423051392559722, -48⟩) := by decide

/-- P4 (V30): -100 m and -328.1 ft. -/
theorem test_s3Altitude :
    seen (step (decoding 0x03#8 0xFF#8 0x9C#8 0x00#8 0 0)) (fun t => (t.resKind, t.v0, t.done)) =
      some (.altitude, roundFrac (-100) 1, true) := by decide

/-- V36: -20 degrees Celsius, -4 Fahrenheit. -/
theorem test_s2Temperature :
    seen (step (decoding 0x04#8 0xEC#8 0x00#8 0 0 0)) (fun t => (t.resKind, t.v0, t.v1)) =
      some (.temp, roundFrac (-20) 1, roundFrac (-4) 1) := by decide

/-- P3, the cycle boundary: 950 mBar and 15 degrees are held and BUSY stays 1. -/
theorem test_s5PressureTemperature :
    seen (step (decoding 0x05#8 0x5C#8 0xC6#8 0x00#8 0x0F#8 0x00#8))
        (fun t => (t.st, t.phase, t.busy, t.hPmbar, t.hTc)) =
      some (.configWritten, true, true, lit 950 1, lit 15 1) := by decide

/-- The patterns run in the step whose transaction carries them (log 10). -/
theorem test_patterns :
    seen (exec .idMpl3115a2 (identifying [.ok [0xC4#8]])) (·.identOk) = some true ∧
    seen (exec .ptcfgEnable (inState .configWritten 0x03#8 [.ok []])) (·.sub) = some true ∧
    seen (exec (.statusReady 0xF#4 0#3) (inState .polling 0x03#8 [.ok [0xF8#8]])) (·.st) = some .dataReady ∧
    seen (exec (.statusReady 0xF#4 0#3) (inState .polling 0x03#8 [.ok [0x08#8]])) (·.st) = none := by decide

/-- P9: reset in the middle of a poll. -/
theorem test_reset :
    seen (step { inState .polling 0x02#8 [] with host := [.reset], pollCnt := 2 })
        (fun t => (t.st, t.busy, t.done, t.identOk, t.pollCnt, t.errKind)) =
      some (.idle, false, false, false, 0, .none) := by decide

/-- 60 R209: after a failed write nothing is known of the register it addressed. -/
theorem test_failed_write_is_unknown :
    seen (step { inState .configWritten 0x02#8 [.busError] with
          sub := true, trace := [.answered (.wr 0x60#8 0x26#8 0xB9#8) (.ok [])] })
        (fun t => (t.writtenByte 0x60#8 0x26#8)) = some none := by decide

/-- The host's numbered words: the very next step from reset runs the row. -/
theorem test_withFetchWord :
    seen (step (State.reset.withFetchWord 24 0x602639)) (·.st) = some .polling ∧
    seen (step (State.reset.withFetchWord 16 0x6001)) (·.st) = some .single ∧
    seen (step (State.reset.withFetchWord 40 0x5CC6000F00)) (·.phase) = some true := by decide

/-! ### Witnesses: states and operands that meet a statement's hypotheses together -/

theorem witness_ConstructIsAccepted : ready.busy = false ∧ State.reset.busy = false := by decide

theorem witness_AcquisitionsAreAccepted :
    ready.busy = false ∧ ready.identOk = true ∧ (Instr.getPressure 0x00#8, 0x02#8) ∈ acquisitionCommands 0x00#8 ∧
      (Instr.getSlp 0xFF#8, 0x05#8) ∈ acquisitionCommands 0xFF#8 := by decide

theorem witness_StandbyIsAccepted : ready.busy = false ∧ ready.identOk = true := by decide

theorem witness_UnconstructedBlockRefusesCommands :
    State.reset.busy = false ∧ State.reset.identOk = false ∧
      (Instr.getPressure 0x00#8, 0x02#8) ∈ constructedCommands 0x00#8 ∧
      (Instr.standby 0x00#8, 0x06#8) ∈ constructedCommands 0x00#8 := by decide

theorem witness_IllegalCommandIsRefused :
    (Instr.illegal 0x00#8 0x00#8).wellFormed = true ∧ (Instr.illegal 0xFF#8 0x07#8).wellFormed = true ∧
      State.reset.busy = false := by decide

theorem witness_BusyBlockAcceptsNothing : (inState .polling 0x02#8 []).busy = true := by decide

/-- The five cases of dispatch, at the opcodes where they meet. -/
theorem witness_DispatchOfAPresentedWord :
    (ready.host = [] ∧ ready.st = .idle ∧ ready.busy = false) ∧
    (withPort ready 0x0000#16).cmdPort = some (0x00#8 ++ 0x00#8) ∧ namedOpcode 0x00#8 = false ∧
    (withPort ready 0x6001#16).cmdPort = some (0x60#8 ++ 0x01#8) ∧ namedOpcode 0x01#8 = true ∧
    (withPort State.reset 0x0002#16).cmdPort = some (0x00#8 ++ 0x02#8) ∧ State.reset.identOk = false ∧
    (withPort ready 0x0006#16).cmdPort = some (0x00#8 ++ 0x06#8) ∧ namedOpcode 0x06#8 = true ∧
    (withPort ready 0x0005#16).cmdPort = some (0x00#8 ++ 0x05#8) ∧ namedOpcode 0x07#8 = false := by decide

theorem witness_OperandByteIsIgnored :
    (0x00#8 ≠ 0x01#8 ∧ 0x02#8 ≠ 0x01#8) ∧ ready.host = [] ∧ ready.st = .idle ∧ ready.busy = false := by decide

theorem witness_IdentityReadDecidesConstruction :
    (identifying []).st = .single ∧ (identifying []).opc = 0x01#8 ∧ (identifying []).devAddr = 0x60#8 ∧
    (identifying [.ok [0xC4#8]]).answers = .ok [0xC4#8] :: [] ∧
    (0xC5#8 ≠ 0xC4#8 ∧ (identifying [.ok [0xC5#8]]).answers = .ok [0xC5#8] :: []) ∧
    (identifying [.busError]).answers = .busError :: [] ∧
    (([] : List Byte).length ≠ 1 ∧ (identifying [.ok []]).answers = .ok [] :: []) := by decide

theorem witness_FirstSetupWrite :
    (inState .configWritten 0x05#8 []).st = .configWritten ∧ (inState .configWritten 0x05#8 []).sub = false ∧
    (inState .configWritten 0x05#8 []).devAddr = 0x60#8 ∧
    (inState .configWritten 0x05#8 [.ok []]).answers = .ok [] :: [] ∧
    (inState .configWritten 0x05#8 [.busError]).answers = .busError :: [] := by decide

/-- The block before the second setup write of a command and cycle. -/
def secondWrite (op : Byte) (phase : Bool) (answers : List Answer) : State :=
  { inState .configWritten op answers with sub := true, phase := phase }

theorem witness_SecondSetupWrite :
    (secondWrite 0x02#8 false [.ok []]).st = .configWritten ∧ (secondWrite 0x02#8 false [.ok []]).sub = true ∧
    (secondWrite 0x02#8 false [.ok []]).devAddr = 0x60#8 ∧ (secondWrite 0x02#8 false [.ok []]).phase = false ∧
    (secondWrite 0x03#8 false [.ok []]).opc = 0x03#8 ∧ (secondWrite 0x05#8 true [.ok []]).phase = true ∧
    (secondWrite 0x05#8 true [.ok []]).answers = .ok [] :: [] ∧
    (secondWrite 0x04#8 false [.busError]).answers = .busError :: [] := by decide

theorem witness_StandbyWrite :
    (inState .single 0x06#8 []).st = .single ∧ (inState .single 0x06#8 []).opc = 0x06#8 ∧
    (inState .single 0x06#8 []).devAddr = 0x60#8 ∧
    (inState .single 0x06#8 [.ok []]).answers = .ok [] :: [] ∧
    (inState .single 0x06#8 [.busError]).answers = .busError :: [] := by decide

theorem witness_PollStep :
    (inState .polling 0x04#8 []).st = .polling ∧ (inState .polling 0x04#8 []).devAddr = 0x60#8 ∧
    (0x08#8 &&& 0x08#8 ≠ 0#8 ∧ (inState .polling 0x04#8 [.ok [0x08#8]]).answers = .ok [0x08#8] :: []) ∧
    (0xF7#8 &&& 0x08#8 = 0#8 ∧ (inState .polling 0x04#8 [.ok [0xF7#8]]).answers = .ok [0xF7#8] :: []) ∧
    (inState .polling 0x04#8 [.busError]).answers = .busError :: [] ∧
    ([0x08#8, 0x08#8].length ≠ 1 ∧ (inState .polling 0x04#8 [.ok [0x08#8, 0x08#8]]).answers = .ok [0x08#8, 0x08#8] :: []) ∧
    budgetSpent (.reads 1 (by decide)) 0 = true ∧ budgetSpent .inf 0 = false := by decide

/-- The block before the burst of a command and cycle. -/
def bursting (op : Byte) (phase : Bool) (answers : List Answer) : State :=
  { inState .dataReady op answers with phase := phase }

theorem witness_BurstRead :
    (bursting 0x02#8 false []).st = .dataReady ∧ (bursting 0x02#8 false []).devAddr = 0x60#8 ∧
    ((bursting 0x03#8 false []).opc = 0x03#8 ∧ (bursting 0x03#8 false []).phase = false) ∧
    ((bursting 0x05#8 true []).opc = 0x05#8 ∧ (bursting 0x05#8 true []).phase = true) ∧
    ([1#8, 2#8, 3#8].length = (3#8).toNat ∧
      (bursting 0x02#8 false [.ok [1#8, 2#8, 3#8]]).answers = .ok [1#8, 2#8, 3#8] :: []) ∧
    ([1#8, 2#8].length = (2#8).toNat ∧ (bursting 0x04#8 false [.ok [1#8, 2#8]]).answers = .ok [1#8, 2#8] :: []) ∧
    ([1#8, 2#8, 3#8, 4#8, 5#8].length = (5#8).toNat ∧
      (bursting 0x05#8 false [.ok [1#8, 2#8, 3#8, 4#8, 5#8]]).answers = .ok [1#8, 2#8, 3#8, 4#8, 5#8] :: []) ∧
    (bursting 0x05#8 false [.busError]).answers = .busError :: [] ∧
    ([1#8].length ≠ (3#8).toNat ∧ (bursting 0x02#8 false [.ok [1#8]]).answers = .ok [1#8] :: []) := by decide

/-- Each of the nine transactions is the one some state issues. -/
theorem witness_UnansweredTransactionWaits :
    (identifying []).request = some (.rd 0x60#8 0x0C#8 1#8) ∧ (identifying []).answers = [] ∧
    (inState .configWritten 0x02#8 []).request = some (.wr 0x60#8 0x13#8 0x07#8) ∧
    (secondWrite 0x02#8 false []).request = some (.wr 0x60#8 0x26#8 0x39#8) ∧
    (secondWrite 0x05#8 true []).request = some (.wr 0x60#8 0x26#8 0xB9#8) ∧
    (inState .single 0x06#8 []).request = some (.wr 0x60#8 0x26#8 0x38#8) ∧
    (inState .polling 0x02#8 []).request = some (.rd 0x60#8 0x00#8 1#8) ∧
    (bursting 0x02#8 false []).request = some (.rd 0x60#8 0x01#8 3#8) ∧
    (bursting 0x04#8 false []).request = some (.rd 0x60#8 0x04#8 2#8) ∧
    (bursting 0x05#8 false []).request = some (.rd 0x60#8 0x01#8 5#8) ∧
    (bursting 0x05#8 false [.silent]).answers = .silent :: [] := by decide

/-- The transactions stand among the rows, so each hypothesis of membership is met. -/
theorem witness_transactionRows :
    (Instr.rdWhoami 0x60#8, Txn.rd 0x60#8 0x0C#8 1#8) ∈ transactionRows 0x60#8 ∧
    (Instr.rdPt5 0x60#8, Txn.rd 0x60#8 0x01#8 5#8) ∈ transactionRows 0x60#8 := by decide

theorem witness_TransactionOutOfSequenceIsRefused :
    ready.request ≠ some (.rd 0x60#8 0x00#8 1#8) ∧
      (inState .polling 0x02#8 []).request ≠ some (.rd 0x60#8 0x01#8 3#8) := by decide

theorem witness_PatternsRunTheirTransaction :
    ((identifying []).st = .single ∧ (identifying [.ok [0xC4#8]]).answers = .ok [0xC4#8] :: []) ∧
    ((inState .configWritten 0x02#8 [.ok []]).st = .configWritten ∧ (inState .configWritten 0x02#8 []).sub = false ∧
      (inState .configWritten 0x02#8 [.ok []]).answers = .ok [] :: []) ∧
    ((secondWrite 0x04#8 false [.ok []]).phase = false ∧ (secondWrite 0x04#8 false [.ok []]).opc = 0x04#8 ∧
      (secondWrite 0x05#8 false [.busError]).sub = true ∧
      (secondWrite 0x05#8 false [.busError]).answers = .busError :: []) ∧
    ((secondWrite 0x03#8 false []).opc = 0x03#8 ∧ (secondWrite 0x05#8 true []).phase = true ∧
      (secondWrite 0x05#8 true [.ok []]).answers = .ok [] :: []) ∧
    ((inState .single 0x06#8 [.ok []]).opc = 0x06#8 ∧ (inState .single 0x06#8 [.ok []]).answers = .ok [] :: [] ∧
      (inState .single 0x06#8 [.busError]).answers = .busError :: []) ∧
    (inState .polling 0x02#8 [.ok [0x0E#8]]).answers = .ok [(0x0#4 ++ 1#1 ++ 0x6#3 : Byte)] :: [] ∧
    (inState .polling 0x02#8 [.ok [0xF7#8]]).answers = .ok [(0xF#4 ++ 0#1 ++ 0x7#3 : Byte)] :: [] := by decide

theorem witness_PressureSampleIsDelivered :
    (decoding 0x02#8 0x62#8 0xF3#8 0x40#8 0 0).st = .decoded ∧ (decoding 0x02#8 0x62#8 0xF3#8 0x40#8 0 0).opc = 0x02#8 ∧
    (decoding 0x02#8 0x62#8 0xF3#8 0x40#8 0 0).phase = false ∧
    encode (.s3Pressure 0x18BCD#18 0#2 0#4) = [0x62#8, 0xF3#8, 0x40#8] := by decide

theorem witness_AltitudeSampleIsDelivered :
    (decoding 0x03#8 0xFF#8 0x9C#8 0x35#8 0 0).st = .decoded ∧ (decoding 0x03#8 0xFF#8 0x9C#8 0x35#8 0 0).opc = 0x03#8 ∧
    (decoding 0x03#8 0xFF#8 0x9C#8 0x35#8 0 0).phase = false ∧
    encode (.s3Altitude 1#1 0x7F9C#15 3#4 5#4) = [0xFF#8, 0x9C#8, 0x35#8] := by decide

theorem witness_SeaLevelPressureIsDelivered :
    ({ decoding 0x05#8 0x02#8 0x1C#8 0x00#8 0 0 with phase := true }).st = .decoded ∧
    ({ decoding 0x05#8 0x02#8 0x1C#8 0x00#8 0 0 with phase := true }).opc = 0x05#8 ∧
    ({ decoding 0x05#8 0x02#8 0x1C#8 0x00#8 0 0 with phase := true }).phase = true ∧
    encode (.s3Altitude 0#1 0x021C#15 0#4 0#4) = [0x02#8, 0x1C#8, 0x00#8] := by decide

theorem witness_TemperatureSampleIsDelivered :
    (decoding 0x04#8 0xEC#8 0x80#8 0 0 0).st = .decoded ∧ (decoding 0x04#8 0xEC#8 0x80#8 0 0 0).opc = 0x04#8 ∧
    (decoding 0x04#8 0xEC#8 0x80#8 0 0 0).phase = false ∧
    encode (.s2Temperature 1#1 0x6C#7 8#4 0#4) = [0xEC#8, 0x80#8] := by decide

theorem witness_FirstCycleOfSlpHoldsItsSample :
    (decoding 0x05#8 0x62#8 0xF3#8 0x40#8 0xEC#8 0x80#8).st = .decoded ∧
    (decoding 0x05#8 0x62#8 0xF3#8 0x40#8 0xEC#8 0x80#8).opc = 0x05#8 ∧
    (decoding 0x05#8 0x62#8 0xF3#8 0x40#8 0xEC#8 0x80#8).phase = false ∧
    encode (.s5PressureTemperature 0x18BCD#18 0#2 0#4 1#1 0x6C#7 8#4 0#4) =
      (decoding 0x05#8 0x62#8 0xF3#8 0x40#8 0xEC#8 0x80#8).raw.list := by decide

theorem witness_StepRunsTheDecodedInstruction :
    ready.host = [] ∧ ({ ready with host := [.rest] }).host = .rest :: [] ∧
    ({ ready with host := [.present 0x0006#16] }).host = .present 0x0006#16 :: [] ∧
    ({ ready with host := [.withdraw] }).host = .withdraw :: [] ∧ ({ ready with host := [.reset] }).host = .reset :: [] ∧
    ({ ready with host := [.reset] }).hostTurn.2 = true ∧
    (ready.hostTurn.2 = false ∧ ready.hostTurn.1.fetch = .nothing) ∧
    ({ ready with host := [.present 0x0006#16] }).hostTurn.2 = false ∧
    ({ ready with host := [.present 0x0006#16] }).hostTurn.1.fetch = .word .command [0x00#8, 0x06#8] ∧
    decode .command [0x00#8, 0x06#8] = .ok (.standby 0x00#8) := by decide

theorem witness_CycleTableIsFollowed :
    (secondWrite 0x05#8 true []).opc = 0x05#8 ∧ (secondWrite 0x05#8 true []).phase = true ∧
    (secondWrite 0x05#8 true []).st = .configWritten ∧ (secondWrite 0x05#8 true []).sub = true ∧
    (bursting 0x04#8 false []).st = .dataReady ∧ (bursting 0x04#8 false []).opc = 0x04#8 ∧
    (decoding 0x02#8 0 0 0 0 0).st = .decoded ∧ (decoding 0x02#8 0 0 0 0 0).phase = false := by decide

theorem witness_ResetTakesOneStep :
    ({ inState .polling 0x02#8 [] with host := [.reset], outstanding := some (.rd 0x60#8 0x00#8 1#8) }).host =
      .reset :: [] := by decide

theorem witness_DecodeOfEncodeIsTheInstruction :
    (Instr.illegal 0x00#8 0x07#8).wellFormed = true ∧ (Instr.s3Altitude 1#1 0#15 0#4 0#4).wellFormed = true := by decide

theorem witness_EncodeOfDecodeIsTheWord :
    decode .status [0xF7#8] = .ok (.statusNotReady 0xF#4 0x7#3) ∧
    decode .command [0x00#8, 0x07#8] = .ok (.illegal 0x00#8 0x07#8) := by decide

theorem witness_OnlyListedTransactionsAreIssued :
    (secondWrite 0x05#8 true []).request = some (.wr 0x60#8 0x26#8 0xB9#8) := by decide

/-- A step from a state with the invariants, in which a command begins, and one in the middle of a poll. -/
theorem witness_StepKeepsTheInvariants :
    (ready.Inv ∧ ∃ t, step ready = .next t) ∧
    ((inState .polling 0x05#8 [.ok [0x08#8]]).Inv ∧ ∃ t, step (inState .polling 0x05#8 [.ok [0x08#8]]) = .next t) :=
  ⟨⟨ready_inv, _, rfl⟩, inState_inv _ rfl (by decide), _, rfl⟩

theorem witness_EveryStepGoesOn : ready.Inv ∧ (inState .decoded 0x04#8 []).Inv ∧ (identifying [.busError]).Inv :=
  ⟨ready_inv, inState_inv _ rfl (by decide), identifying_inv _⟩

theorem witness_StepKeepsTheNumbers :
    (decoding 0x04#8 0xEC#8 0x80#8 0 0 0).NumInv ∧ ∃ t, step (decoding 0x04#8 0xEC#8 0x80#8 0 0 0) = .next t :=
  ⟨⟨by decide, by decide, by decide, by decide, by decide⟩, _, rfl⟩

theorem witness_StepKeepsTheBusDiscipline :
    ∃ s t : State, s.outstanding = some (.rd 0x60#8 0x00#8 1#8) ∧ s.BusInv ∧ step s = .next t ∧ s.TraceInv ∧ s.trace ≠ [] :=
  ⟨{ inState .polling 0x02#8 [.silent] with
      outstanding := some (.rd 0x60#8 0x00#8 1#8), trace := [.answered (.wr 0x60#8 0x26#8 0x39#8) (.ok [])] },
    _, rfl, fun t h => by simpa [State.request, inState, ready] using h, rfl,
    fun e h => by
      have he : e = .answered (.wr 0x60#8 0x26#8 0x39#8) (.ok []) := by simpa using h
      subst he
      rfl,
    by decide⟩

theorem witness_OneTransactionAStep :
    (∃ t, step (inState .polling 0x02#8 [.ok [0x08#8]]) = .next t ∧ (inState .polling 0x02#8 []).hostTurn.2 = false) ∧
    ∃ t, step { inState .polling 0x02#8 [] with host := [.reset] } = .next t ∧
      ({ inState .polling 0x02#8 [] with host := [.reset] }).hostTurn.2 = true :=
  ⟨⟨_, rfl, rfl⟩, _, rfl, rfl⟩

theorem witness_OnlyConstructWritesDevAddr :
    ∃ t, step (withPort ready 0x6101#16) = .next t ∧ t.devAddr ≠ (withPort ready 0x6101#16).devAddr :=
  ⟨_, rfl, by decide⟩

theorem witness_IdentOkFollowsTheIdentityRead :
    (∃ t, step (identifying [.ok [0xC4#8]]) = .next t ∧ (identifying []).identOk = false ∧ t.identOk = true) ∧
    ∃ t, step (withPort ready 0x6101#16) = .next t ∧ (withPort ready 0x6101#16).identOk = true ∧ t.identOk = false :=
  ⟨⟨_, rfl, rfl, rfl⟩, _, rfl, rfl, rfl⟩

theorem witness_BurstComesOnlyAfterReady :
    (∃ t, step (inState .polling 0x02#8 [.ok [0x08#8]]) = .next t ∧ t.st = .dataReady ∧
      (inState .polling 0x02#8 []).st ≠ .dataReady) ∧
    ∃ t, step (secondWrite 0x03#8 false [.ok []]) = .next t ∧ t.st = .polling ∧
      (secondWrite 0x03#8 false [.ok []]).st ≠ .polling :=
  ⟨⟨_, rfl, by decide, by decide⟩, _, rfl, rfl, by decide⟩

theorem witness_ResultsComeFromTheFinalDecodedStep :
    ∃ t, step (decoding 0x03#8 0xFF#8 0x9C#8 0x00#8 0 0) = .next t ∧
      (decoding 0x03#8 0xFF#8 0x9C#8 0x00#8 0 0).resKind = .none ∧ t.resKind ≠ .none :=
  ⟨_, rfl, rfl, by decide⟩

/-- An idle block after GET_TEMP. -/
def delivered : State := { ready with done := true, resKind := .temp, opc := 0x04#8 }

theorem delivered_inv : delivered.Inv := by constructor <;> simp [delivered, ready, State.reset, SeqState.inCycle]

theorem witness_OutcomeLastsUntilTheNextCommand :
    delivered.Inv ∧ delivered.st = .idle ∧ (∃ t, step delivered = .next t) ∧
    ∃ t, step { delivered with host := [.present 0x0006#16] } = .next t :=
  ⟨delivered_inv, rfl, ⟨_, rfl⟩, _, rfl⟩

/-- An idle block after a CONSTRUCT that met the wrong device (95_test_vectors P5, first row). -/
def failed : State :=
  { State.reset with devAddr := 0x60#8, opc := 0x01#8, done := true, errKind := .identityMismatch, errInfo := 0xC5#8 }

theorem failed_inv : failed.Inv := by constructor <;> simp [failed, State.reset, SeqState.inCycle]

/-- Four of the five errors, the last while the error of the command before still stands, and an idle block with an error
that does nothing; the fifth error needs a bound on the polls (below). -/
theorem witness_ErrorsComeFromTheirSteps :
    ((identifying [.ok [0xC5#8]]).Inv ∧
      ∃ t, step (identifying [.ok [0xC5#8]]) = .next t ∧ t.errKind = .identityMismatch) ∧
    ((inState .dataReady 0x04#8 [.busError]).Inv ∧
      ∃ t, step (inState .dataReady 0x04#8 [.busError]) = .next t ∧ t.errKind = .busError) ∧
    (ready.Inv ∧ ∃ t, step { ready with host := [.present 0x0000#16] } = .next t ∧ t.errKind = .illegalCommand) ∧
    (failed.Inv ∧ ∃ t, step { failed with host := [.present 0x0006#16] } = .next t ∧ t.errKind = .notConstructed) ∧
    ∃ t, step failed = .next t ∧ t.errKind = .identityMismatch ∧ t = failed.hostTurn.1 :=
  ⟨⟨identifying_inv _, _, rfl, by decide⟩, ⟨inState_inv _ rfl (by decide), _, rfl, by decide⟩,
    ⟨ready_inv, _, rfl, by decide⟩, ⟨failed_inv, _, rfl, by decide⟩, _, rfl, by decide, rfl⟩

/-- The block at its last permitted read, of a bound of `n + 1`. -/
def lastRead (n : Nat) : State := { inState .polling 0x02#8 [.ok [0xF7#8]] with pollCnt := n }

theorem witness_ErrorsComeFromTheirSteps_timeout (n : Nat) (h : 0 < n + 1) (hp : Config.pollMax = .reads (n + 1) h) :
    (lastRead n).Inv ∧ (lastRead n).errKind = .none ∧
      ∃ t, step (lastRead n) = .next t ∧ t.errKind = .acquisitionTimeout := by
  refine ⟨?_, rfl, _, rfl, ?_⟩
  · constructor <;> simp [lastRead, inState, ready, State.reset, acquisitionOpcode, hp, PollBound.allows]
  · have hb : budgetSpent Config.pollMax n = true := by simp [hp, budgetSpent]
    change (if budgetSpent Config.pollMax n = true then _ else _ : State).errKind = _
    rw [if_pos hb]
    rfl

theorem witness_CommandInProgressIsNotDisturbed :
    (inState .polling 0x02#8 [.ok [0x08#8]]).Inv ∧ (inState .polling 0x02#8 [.ok [0x08#8]]).busy = true ∧
    (∃ t, (inState .polling 0x02#8 [.ok [0x08#8]]).hostTurn.2 = false ∧
      step (inState .polling 0x02#8 [.ok [0x08#8]]) = .next t) ∧
    ∃ t, step { inState .polling 0x02#8 [.ok [0x08#8]] with host := [.rest] } = .next t :=
  ⟨inState_inv _ rfl (by decide), rfl, ⟨_, rfl, rfl⟩, _, rfl⟩

/-- 42_operations R160: a word presented in the middle of a command stays pending and is not looked at. -/
theorem test_word_while_busy_stays_pending :
    seen (step { inState .polling 0x02#8 [.ok [0x08#8]] with host := [.present 0x6101#16] })
        (fun t => (t.cmdPort, t.st, t.opc, t.devAddr)) = some (some 0x6101#16, .dataReady, 0x02#8, 0x60#8) := by decide

/-- 10_state R32: `V2` of an altitude record reads as unspecified, and its outcome has meters and feet alone (P4). -/
theorem test_host_reads_altitude :
    seen (step (decoding 0x03#8 0xFF#8 0x9C#8 0x00#8 0 0)) (fun t => (t.hostRead .v0, t.hostRead .v2, t.hostRead .resKind)) =
      some (.num (roundFrac (-100) 1), .unspecified, .kind .altitude) := by decide

/-- Busy; with each kind of record; with an error; with no measurement; before the first command. -/
theorem witness_HostReadsShowTheOutcome :
    ((inState .decoded 0x05#8 []).Inv ∧ (inState .decoded 0x05#8 []).busy = true ∧
      (inState .decoded 0x05#8 []).done = false ∧ (inState .decoded 0x05#8 []).resKind = .none) ∧
    (delivered.Inv ∧ delivered.resKind = .temp) ∧
    (({ delivered with resKind := .pressure } : State).Inv ∧ ({ delivered with resKind := .altitude } : State).Inv ∧
      ({ delivered with resKind := .slp } : State).Inv) ∧
    (failed.Inv ∧ failed.errKind ≠ .none) ∧
    (({ ready with done := true } : State).Inv ∧ ({ ready with done := true } : State).resKind = .none ∧
      ({ ready with done := true } : State).errKind = .none) :=
  ⟨⟨inState_inv _ rfl (by decide), rfl, rfl, rfl⟩, ⟨delivered_inv, rfl⟩,
    ⟨by constructor <;> simp [delivered, ready, State.reset, SeqState.inCycle],
      by constructor <;> simp [delivered, ready, State.reset, SeqState.inCycle],
      by constructor <;> simp [delivered, ready, State.reset, SeqState.inCycle]⟩,
    ⟨failed_inv, by decide⟩,
    ⟨by constructor <;> simp [ready, State.reset, SeqState.inCycle], rfl, rfl⟩⟩

theorem witness_ConstructAndStandbyRun :
    (∃ s : State, s.host = [] ∧ s.st = .idle ∧ s.busy = false ∧ s.cmdPort = some (0x60#8 ++ 0x01#8) ∧
      s.answers = .ok [0xC4#8] :: []) ∧
    (∃ s : State, s.host = [] ∧ s.st = .idle ∧ s.busy = false ∧ s.cmdPort = some (0x60#8 ++ 0x01#8) ∧
      s.answers = .ok [0xC5#8] :: []) ∧
    ∃ s : State, s.host = [] ∧ s.st = .idle ∧ s.busy = false ∧ s.identOk = true ∧
      s.cmdPort = some (0x00#8 ++ 0x06#8) ∧ s.answers = .ok [] :: [] :=
  ⟨⟨{ withPort ready 0x6001#16 with answers := [.ok [0xC4#8]] }, rfl, rfl, rfl, rfl, rfl⟩,
    ⟨{ withPort ready 0x6001#16 with answers := [.ok [0xC5#8]] }, rfl, rfl, rfl, rfl, rfl⟩,
    { withPort ready 0x0006#16 with answers := [.ok []] }, rfl, rfl, rfl, rfl, rfl, rfl⟩

theorem witness_PollLoopEndsWhenReady :
    (inState .polling 0x02#8 [.ok [0x08#8]]).host = [] ∧ (inState .polling 0x02#8 [.ok [0x08#8]]).st = .polling ∧
    (inState .polling 0x02#8 [.ok [0x08#8]]).pollCnt = 0 ∧ (∀ x ∈ ([] : List Byte), x &&& 0x08#8 = 0#8) ∧
    0x08#8 &&& 0x08#8 ≠ 0#8 ∧ Config.pollMax.allows ([] : List Byte).length = true ∧
    (inState .polling 0x02#8 [.ok [0x08#8]]).answers = statusAnswers [] ++ .ok [0x08#8] :: [] :=
  ⟨rfl, rfl, rfl, by simp, by decide, allows_zero _, rfl⟩

/-- With a bound of two or more, a first read that finds the bit clear. -/
theorem witness_PollLoopEndsWhenReady_second (n : Nat) (h : 0 < n + 2) (hp : Config.pollMax = .reads (n + 2) h) :
    Config.pollMax.allows [0xF7#8].length = true ∧ (∀ x ∈ [0xF7#8], x &&& 0x08#8 = 0#8) ∧
    (inState .polling 0x02#8 [.ok [0xF7#8], .ok [0x08#8]]).answers = statusAnswers [0xF7#8] ++ .ok [0x08#8] :: [] :=
  ⟨by simp [hp, PollBound.allows], by decide, rfl⟩

theorem witness_PollLoopEndsOrTimesOut :
    ∃ (s : State) (clear : List Byte) (b : Byte) (rest : List Answer),
      s.host = [] ∧ s.st = .polling ∧ s.pollCnt = 0 ∧ (∀ x ∈ clear, x &&& 0x08#8 = 0#8) ∧ b &&& 0x08#8 = 0#8 ∧
      s.answers = statusAnswers clear ++ .ok [b] :: rest ∧
      match Config.pollMax with
      | .inf => True
      | .reads n _ => clear.length + 1 = n := by
  cases hp : Config.pollMax with
  | inf =>
    exact ⟨inState .polling 0x02#8 [.ok [0xF7#8]], [], 0xF7#8, [], rfl, rfl, rfl, by simp, by decide, rfl, trivial⟩
  | reads n h =>
    refine ⟨inState .polling 0x02#8 (statusAnswers (List.replicate (n - 1) 0x00#8) ++ [.ok [0xF7#8]]),
      List.replicate (n - 1) 0x00#8, 0xF7#8, [], rfl, rfl, rfl, ?_, by decide, rfl, ?_⟩
    · intro x hx
      rw [List.eq_of_mem_replicate hx]
      decide
    · simp only [List.length_replicate]
      omega

/-- An idle constructed block with a word on the port, ready sensors and the samples to come. -/
def commanded (w : CommandWord) (answers : List Answer) : State := { withPort ready w with answers := answers }

/-- Each of the three commands at a sample of its length. -/
theorem witness_OneCycleCommandsRun :
    ((0x08#8 &&& 0x08#8 ≠ 0#8 ∧ (∀ x ∈ ([] : List Byte), x &&& 0x08#8 = 0#8)) ∧
      Config.pollMax.allows ([] : List Byte).length = true) ∧
    ∀ p ∈ [(0x02#8, [0x62#8, 0xF3#8, 0x40#8]), (0x03#8, [0xFF#8, 0x9C#8, 0x00#8]), (0x04#8, [0xEC#8, 0x00#8])],
      ∃ s : State, s.host = [] ∧ s.st = .idle ∧ s.busy = false ∧ s.identOk = true ∧ s.cmdPort = some (0x00#8 ++ p.1) ∧
        s.answers = .ok [] :: .ok [] :: (statusAnswers [] ++ .ok [0x08#8] :: .ok p.2 :: []) :=
  ⟨⟨⟨by decide, by simp⟩, allows_zero _⟩, fun p _ =>
    ⟨commanded (0x00#8 ++ p.1) [.ok [], .ok [], .ok [0x08#8], .ok p.2], rfl, rfl, rfl, rfl, rfl, rfl⟩⟩

theorem witness_GetSlpRuns :
    ∃ s : State, s.host = [] ∧ s.st = .idle ∧ s.busy = false ∧ s.identOk = true ∧ s.cmdPort = some (0x00#8 ++ 0x05#8) ∧
      (∀ x ∈ ([] : List Byte), x &&& 0x08#8 = 0#8) ∧ 0x0E#8 &&& 0x08#8 ≠ 0#8 ∧ 0x08#8 &&& 0x08#8 ≠ 0#8 ∧
      Config.pollMax.allows ([] : List Byte).length = true ∧
      s.answers = .ok [] :: .ok [] :: (statusAnswers [] ++ .ok [0x0E#8] :: .ok [0x5C#8, 0xC6#8, 0x00#8, 0x0F#8, 0x00#8] ::
        .ok [] :: .ok [] :: (statusAnswers [] ++ .ok [0x08#8] :: .ok [0x02#8, 0x1C#8, 0x00#8] :: [])) :=
  ⟨commanded 0x0005#16 [.ok [], .ok [], .ok [0x0E#8], .ok [0x5C#8, 0xC6#8, 0x00#8, 0x0F#8, 0x00#8], .ok [], .ok [],
    .ok [0x08#8], .ok [0x02#8, 0x1C#8, 0x00#8]], rfl, rfl, rfl, rfl, rfl, by simp, by decide, by decide, allows_zero _,
    rfl⟩

theorem witness_CommandsEndOrPollOn :
    ∃ s : State, s.Inv ∧ s.busy = true ∧ s.host = [] ∧ (∀ x ∈ s.answers, x ≠ .silent) ∧ 2 * (1 + 4) ≤ s.answers.length :=
  ⟨inState .configWritten 0x05#8 (List.replicate 10 (.ok [])), inState_inv _ rfl (by decide), rfl, rfl, by decide, by decide⟩

theorem witness_WrittenBytesFollowTheTrace :
    (({ ready with trace := [.answered (.wr 0x60#8 0x26#8 0x38#8) (.ok [])] }).trace =
      ready.trace ++ [.answered (.wr 0x60#8 0x26#8 0x38#8) (.ok [])]) ∧
    (({ ready with trace := [.abandoned (.wr 0x60#8 0x26#8 0x38#8)] }).trace =
      ready.trace ++ [.abandoned (.wr 0x60#8 0x26#8 0x38#8)]) ∧
    (Exchange.answered (.rd 0x60#8 0x00#8 1#8) .busError).txn ≠ .wr 0x60#8 0x00#8 0x00#8 := by decide

theorem witness_DecodesAreStrictlyIncreasing :
    (0x7F#8 ++ 0xFF#8 ++ 0xFF#8 : BitVec 24).toNat < (0x80#8 ++ 0x00#8 ++ 0x00#8 : BitVec 24).toNat ∧
    (0x80#8 ++ 0x00#8 ++ 0x00#8 : BitVec 24).toInt < (0x7F#8 ++ 0xFF#8 ++ 0xFF#8 : BitVec 24).toInt ∧
    (0xEC#8 ++ 0x80#8 : BitVec 16).toInt < (0x00#8 ++ 0x00#8 : BitVec 16).toInt := by decide

theorem witness_RoundingIsToNearestEven : 0 < 3 ∧ kFt.canonical = true ∧ Binary64.zero.canonical = true := by decide

theorem witness_OperationsRoundOnce :
    kFt.canonical = true ∧ numValue (lit 100 1) ≠ 0 ∧
      ∃ (exact : ℚ) (r : Binary64), exact = numValue kFt / numValue (lit 100 1) ∧ r = numDiv kFt (lit 100 1) := by
  refine ⟨by decide, ?_, _, _, rfl, rfl⟩
  have h : lit 100 1 = ⟨100 * 2 ^ 46, -46⟩ := by decide
  rw [h]
  norm_num [numValue, numer, denom]

theorem witness_SlpCornerCases :
    (fun _ : Binary64 => lit 1 1) Binary64.zero = lit 1 1 ∧ (lit 950 1).canonical = true := by decide

end Sys2Proof.Tests
end

section
/-! Command words on the port of an idle block (30_encoding R80, R83): which instruction the step runs, and what that
instruction does not depend on. -/

namespace Sys2Proof.Machine

/-- R80: a command word is its operand byte, then its opcode. -/
@[simp] theorem bytes16_append (a op : Byte) : bytes16 (a ++ op) = [a, op] := by
  have hi : (a ++ op : CommandWord).extractLsb' 8 8 = a := BitVec.extractLsb'_append_eq_left
  have lo : (a ++ op : CommandWord).extractLsb' 0 8 = op := BitVec.extractLsb'_append_eq_right
  rw [bytes16, hi, lo]

/-- Without a host action to come, the step is the block's alone (log 1). -/
theorem step_of_host_nil {s : State} (h : s.host = []) : step s = blockStep s := by
  simp [step, State.hostTurn, h]

theorem fetch_presented {s : State} {a op : Byte} (hst : s.st = .idle) (hp : s.cmdPort = some (a ++ op)) :
    s.fetch = .word .command [a, op] := by
  simp [State.fetch, hst, hp]

theorem step_presented {s : State} {a op : Byte} (hh : s.host = []) (hst : s.st = .idle)
    (hp : s.cmdPort = some (a ++ op)) : step s = exec (decodeCommand a op) s := by
  simp [step_of_host_nil hh, blockStep, fetch_presented hst hp, decode]

/-- The dispatch of R161 by opcode, on the state after `accept`. -/
def State.dispatch (a op : Byte) (t : State) : State :=
  if namedOpcode op = false then t.raise .illegalCommand false op
  else if op = 0x01#8 then { t with devAddr := a, identOk := false, busy := true, st := .single }
  else t.beginIn (if op = 0x06#8 then .single else .configWritten)

/-- Every command word is the accepting step of its opcode with its dispatch (R160, R161). -/
theorem exec_decodeCommand (a op : Byte) (s : State) :
    exec (decodeCommand a op) s = s.command op (State.dispatch a op) := by
  unfold decodeCommand
  split_ifs with h1 h2 h3 h4 h5 h6
  case neg =>
    have hop : namedOpcode op = false := unnamed_of_ne h1 h2 h3 h4 h5 h6
    have hd : State.dispatch a op = fun t => t.raise .illegalCommand false op := by
      funext t
      exact if_pos hop
    rw [hd]
    rfl
  all_goals subst op; rfl

/-- R83: dispatch reads the operand for CONSTRUCT alone. -/
theorem dispatch_operand_irrel {op : Byte} (a b : Byte) (h : op ≠ 0x01#8) :
    State.dispatch a op = State.dispatch b op := by
  funext t
  simp [State.dispatch, h]

/-- `accept` takes the word off the port (log 1), so acceptance does not depend on which word stood there. -/
theorem command_cmdPort_irrel {s : State} (p q : Option CommandWord) (op : Byte) (f : State → State)
    (hb : s.busy = false) : State.command { s with cmdPort := p } op f = State.command { s with cmdPort := q } op f := by
  have accepted (r : Option CommandWord) : State.command { s with cmdPort := r } op f = .next (f (s.accept op)) :=
    command_idle op f hb
  rw [accepted p, accepted q]

/-- Settles O8: `accept` forgets the word on the port, and the dispatch after it drops the operand. -/
theorem operandByteIsIgnored : Obligations.OperandByteIsIgnored := by
  intro s a b op hop hh hst hb
  have runs (x : Byte) : step { s with cmdPort := some (x ++ op) } =
      State.command { s with cmdPort := some (x ++ op) } op (State.dispatch x op) :=
    (step_presented (s := { s with cmdPort := some (x ++ op) }) hh hst rfl).trans (exec_decodeCommand x op _)
  rw [runs a, runs b, dispatch_operand_irrel a b hop]
  exact command_cmdPort_irrel _ _ op _ hb

end Sys2Proof.Machine
end

section
/-! The unpacker's bytes (40_decode R110 to R116): the two conditions, the packed word as its bytes side by side, and the
value of two words side by side, from which the decoded values follow. -/

namespace Sys2Proof.Machine

/-! ### The conditions (R115, R116) -/

/-- R115: the mask 0x08 is bit 3 alone. -/
theorem rdy_iff (s : Byte) : rdy s = true ↔ s.getLsbD 3 = true := by
  have mask : s &&& 0x08#8 = if s.getLsbD 3 then 0x08#8 else 0#8 := BitVec.and_twoPow s 3
  rw [rdy, mask]
  cases s.getLsbD 3 <;> simp

theorem idChk_iff (b : Byte) : idChk b = true ↔ b = 0xC4#8 := by
  simp [idChk]

/-- Settles O51: one byte's condition each, read off its mask and its constant. -/
theorem conditionsTestTheirBits : Obligations.ConditionsTestTheirBits :=
  fun b => ⟨rdy_iff b, idChk_iff b⟩

/-! ### The packed word (R110) -/

/-- Two words side by side, read unsigned: the high word is scaled by the width of the low one. -/
theorem toNat_append_eq_add {v w : Nat} (x : BitVec v) (y : BitVec w) :
    (x ++ y).toNat = 2 ^ w * x.toNat + y.toNat := by
  rw [BitVec.toNat_append, ← Nat.shiftLeft_add_eq_or_of_lt y.isLt, Nat.shiftLeft_eq, Nat.mul_comm]

/-- Two words side by side, read signed: the high word alone carries the sign. -/
theorem toInt_append_eq_add {v w : Nat} (hv : v ≠ 0) (x : BitVec v) (y : BitVec w) :
    (x ++ y).toInt = 2 ^ w * x.toInt + y.toNat := by
  simp [BitVec.toInt_append, hv]

/-- The three shifted bytes do not overlap: bit `i` of the word is bit `i % 8` of `l`, `c` or `m` for `i` from 8, 16 or 24
up, because the bytes below it have no bit left there; under 8 no byte has one. -/
theorem asm32_eq_append (m c l : Byte) : asm32 m c l = m ++ c ++ l ++ 0#8 := by
  apply BitVec.eq_of_getLsbD_eq
  intro i hi
  simp only [asm32, BitVec.getLsbD_or, BitVec.getLsbD_shiftLeft, BitVec.getLsbD_setWidth, BitVec.getLsbD_append,
    BitVec.getLsbD_zero, Nat.sub_sub]
  grind

theorem asm32_toNat (m c l : Byte) :
    (asm32 m c l).toNat = 256 * (65536 * m.toNat + 256 * c.toNat + l.toNat) := by
  simp only [asm32_eq_append, toNat_append_eq_add, BitVec.toNat_ofNat]
  omega

/-- R112: the sign of the packed word is the sign of its two high bytes; the low byte only adds to them. -/
theorem asm32_toInt (m c l : Byte) :
    (asm32 m c l).toInt = 65536 * (m ++ c : BitVec 16).toInt + 256 * l.toNat := by
  have fraction : (asm32 m c l).toInt = 2 ^ 8 * (2 ^ 8 * (m ++ c : BitVec 16).toInt + l.toNat) + 0 := by
    rw [asm32_eq_append, toInt_append_eq_add (by decide), toInt_append_eq_add (by decide)]
    rfl
  omega

/-- Settles O52: the value (`asm32_toNat`) follows from the bytes' places (`asm32_eq_append`). -/
theorem packedWordIsItsBytes : Obligations.PackedWordIsItsBytes :=
  fun m c l => ⟨asm32_eq_append m c l, asm32_toNat m c l⟩

/-! ### The decoded values (R111 to R113) -/

theorem decP_value (m c l : Byte) : (decP m c l).value = ((asm32 m c l).toNat : ℚ) / 16384 := by
  simp [Exact.value, decP]

theorem decA_value (m c l : Byte) : (decA m c l).value = ((asm32 m c l).toInt : ℚ) / 65536 := by
  simp [Exact.value, decA]

/-- R111: the zero low byte cancels, and the 24 bits of the sample count 64ths of a pascal. -/
theorem decP_value_bytes (m c l : Byte) :
    (decP m c l).value = (65536 * m.toNat + 256 * c.toNat + l.toNat : ℚ) / 64 := by
  rw [decP_value, asm32_toNat]
  push_cast
  ring

/-- R112: signed whole meters in the two high bytes, and a fraction that is never negative. -/
theorem decA_value_bytes (m c l : Byte) :
    (decA m c l).value = ((m ++ c : BitVec 16).toInt : ℚ) + (l.toNat : ℚ) / 256 := by
  rw [decA_value, asm32_toInt]
  push_cast
  ring

/-- R113: signed whole degrees, and a fraction that is never negative. -/
theorem decT_value (t u : Byte) : (decT t u).value = (t.toInt : ℚ) + (u.toNat : ℚ) / 256 := by
  simp only [Exact.value, decT]
  push_cast
  ring

/-- Settles O53, from the value of the packed word read unsigned (`asm32_toNat`) and signed (`asm32_toInt`). -/
theorem decodedValuesAreExact : Obligations.DecodedValuesAreExact :=
  fun m c l t u =>
    ⟨decP_value m c l, decP_value_bytes m c l, decA_value m c l, decA_value_bytes m c l, decT_value t u⟩

end Sys2Proof.Machine
end

section
/-! The dispatch of R161 from the step itself: a word on the port of an idle block is accepted, and then runs the first of
five cases that applies. One equation per case; the rules of `raise` and `accept` then give every register. -/

namespace Sys2Proof.Machine

/-- R160: an idle block with a word on its port accepts it in this step, and dispatches it. -/
theorem step_accepts {s : State} {a op : Byte} (hh : s.host = []) (hst : s.st = .idle) (hb : s.busy = false)
    (hp : s.cmdPort = some (a ++ op)) : step s = .next (State.dispatch a op (s.accept op)) :=
  calc step s = exec (decodeCommand a op) s := step_presented hh hst hp
    _ = s.command op (State.dispatch a op) := exec_decodeCommand a op s
    _ = .next (State.dispatch a op (s.accept op)) := command_idle op _ hb

/-- R161, case 1: an opcode that names no operation. -/
theorem dispatch_illegal {a op : Byte} (t : State) (hop : namedOpcode op = false) :
    State.dispatch a op t = t.raise .illegalCommand false op :=
  if_pos hop

/-- R161, case 2: CONSTRUCT, whatever IDENT_OK is. -/
theorem dispatch_construct (a : Byte) (t : State) :
    State.dispatch a 0x01#8 t = { t with devAddr := a, identOk := false, busy := true, st := .single } := rfl

theorem dispatch_beginIn {a op : Byte} (t : State) (hop : namedOpcode op ≠ false) (h1 : op ≠ 0x01#8) :
    State.dispatch a op t = t.beginIn (if op = 0x06#8 then .single else .configWritten) := by
  rw [State.dispatch, if_neg hop, if_neg h1]

/-- R161, case 3: a command before a successful CONSTRUCT. -/
theorem beginIn_unconstructed {t : State} (target : SeqState) (hid : t.identOk = false) :
    t.beginIn target = t.raise .notConstructed false t.opc := by
  simp [State.beginIn, hid]

/-- R161, cases 4 and 5: a constructed block begins in the state of its command. -/
theorem beginIn_constructed {t : State} (target : SeqState) (hid : t.identOk = true) :
    t.beginIn target = { t with busy := true, st := target } :=
  if_pos hid

/-- Settles O7: after acceptance (`step_accepts`) the cases are split in the order R161 tests them. -/
theorem dispatchOfAPresentedWord : Obligations.DispatchOfAPresentedWord := by
  intro s a op hh hst hb hp
  refine ⟨_, step_accepts hh hst hb hp, ?_⟩
  by_cases hop : namedOpcode op = false
  case pos => simp [dispatch_illegal _ hop, hop, hh]
  by_cases h1 : op = 0x01#8
  case pos =>
    subst h1
    simp [dispatch_construct, hop, hh]
  rw [dispatch_beginIn _ hop h1]
  cases hid : s.identOk
  case false => simp [beginIn_unconstructed (t := s.accept op) _ hid, hop, h1, hid, hh]
  case true => simp [beginIn_constructed (t := s.accept op) _ hid, hop, h1, hid, hh]

end Sys2Proof.Machine
end

section
/-! The two errors of dispatch (60_exceptions R204, R205): both are raised on the state after `accept` in the accepting
step, so one frame lemma says what either leaves in every register (R206). -/

namespace Sys2Proof.Machine

/-- The commands that need a constructed block are accepting steps that begin in the state of their command (R161, cases
4 and 5). -/
theorem exec_constructedCommand {a : Byte} {p : Instr × Byte} (hp : p ∈ constructedCommands a) (s : State) :
    exec p.1 s = s.command p.2 fun t => t.beginIn (if p.2 = 0x06#8 then .single else .configWritten) := by
  simp only [constructedCommands, List.mem_cons, List.not_mem_nil, or_false] at hp
  obtain rfl | rfl | rfl | rfl | rfl := hp <;> rfl

/-- The accepting step of an unnamed opcode (R161, case 1): whether the block is constructed is not consulted. -/
theorem exec_illegal (a op : Byte) (s : State) :
    exec (.illegal a op) s = s.command op fun t => t.raise .illegalCommand false op := rfl

/-- R160, R206: what a command that fails in its accepting step leaves in every register. `DEV_ADDR`, `IDENT_OK`, the
answers, the outstanding transaction, the trace and the host's list are not among those written. -/
theorem exec_frame_of_accept_raise {i : Instr} {s : State} {op : Byte} {e : ErrKind}
    (h : exec i s = .next ((s.accept op).raise e false op)) :
    ∃ x0 x1 x2 r hp ht k port, exec i s = .next { s with
      busy := false, done := true, st := .idle, opc := op
      sub := false, phase := false, pollCnt := 0
      resKind := .none, v0 := x0, v1 := x1, v2 := x2
      errKind := e, errCause := false, errInfo := op
      raw := r, hPmbar := hp, hTc := ht, cmdPort := port, free := k } :=
  ⟨_, _, _, _, _, _, _, _, h⟩

/-- Settles O4: acceptance keeps `IDENT_OK = 0` and latches the opcode that `beginIn` then reports. -/
theorem unconstructedBlockRefusesCommands : Obligations.UnconstructedBlockRefusesCommands := by
  refine ⟨rfl, fun a s hb hid p hp => exec_frame_of_accept_raise ?_⟩
  calc exec p.1 s = s.command p.2 fun t => t.beginIn _ := exec_constructedCommand hp s
    _ = .next ((s.accept p.2).beginIn _) := command_idle _ _ hb
    _ = .next ((s.accept p.2).raise .notConstructed false p.2) :=
      congrArg _ (beginIn_unconstructed (t := s.accept p.2) _ hid)

/-- Settles O5: the row's well-formedness only names the opcodes that reach it; its accepting step raises for any. -/
theorem illegalCommandIsRefused : Obligations.IllegalCommandIsRefused := by
  refine ⟨rfl, fun a op s _ hb => exec_frame_of_accept_raise ?_⟩
  calc exec (.illegal a op) s = s.command op _ := exec_illegal a op s
    _ = .next ((s.accept op).raise .illegalCommand false op) := command_idle op _ hb

end Sys2Proof.Machine
end

section
/-! Words and rows (30_encoding sections 1 to 4): `decode` and `encode` are inverse in every place. A word is the bytes it is
written with, and a sample is the fields its layout names; both are statements about parts of a bit vector side by side. -/

namespace Sys2Proof.Machine

/-! ### A word is its bytes side by side, and a sample its fields (R80, R84, R89 to R95) -/

/-- Words side by side are told apart part by part. -/
theorem append_inj {v w : Nat} {x x' : BitVec v} {y y' : BitVec w} (h : x ++ y = x' ++ y') : x = x' ∧ y = y' := by
  constructor
  · calc x = (x ++ y).extractLsb' w v := BitVec.extractLsb'_append_eq_left.symm
      _ = x' := by rw [h, BitVec.extractLsb'_append_eq_left]
  · calc y = (x ++ y).extractLsb' 0 w := BitVec.extractLsb'_append_eq_right.symm
      _ = y' := by rw [h, BitVec.extractLsb'_append_eq_right]

/-- Two neighbouring parts of a word, put side by side again. -/
theorem extract_append_extract {w : Nat} (x : BitVec w) (lo k n : Nat) :
    x.extractLsb' (lo + k) n ++ x.extractLsb' lo k = x.extractLsb' lo (n + k) :=
  BitVec.extractLsb'_append_extractLsb'_eq_extractLsb' rfl

theorem append_bytes24 (w : BitVec 24) : w.extractLsb' 16 8 ++ w.extractLsb' 8 8 ++ w.extractLsb' 0 8 = w := by
  rw [extract_append_extract w 8 8 8, extract_append_extract w 0 8 16, BitVec.extractLsb'_eq_self]

theorem append_bytes40 (w : BitVec 40) :
    w.extractLsb' 32 8 ++ w.extractLsb' 24 8 ++ w.extractLsb' 16 8 ++ w.extractLsb' 8 8 ++ w.extractLsb' 0 8 = w := by
  rw [extract_append_extract w 24 8 8, extract_append_extract w 16 8 16, extract_append_extract w 8 8 24,
    extract_append_extract w 0 8 32, BitVec.extractLsb'_eq_self]

theorem pressure_fields (w : BitVec 24) : w.extractLsb' 6 18 ++ w.extractLsb' 4 2 ++ w.extractLsb' 0 4 = w := by
  rw [extract_append_extract w 4 2 18, extract_append_extract w 0 4 20, BitVec.extractLsb'_eq_self]

theorem altitude_fields (w : BitVec 24) :
    w.extractLsb' 23 1 ++ w.extractLsb' 8 15 ++ w.extractLsb' 4 4 ++ w.extractLsb' 0 4 = w := by
  rw [extract_append_extract w 8 15 1, extract_append_extract w 4 4 16, extract_append_extract w 0 4 20,
    BitVec.extractLsb'_eq_self]

theorem temperature_fields (w : BitVec 16) :
    w.extractLsb' 15 1 ++ w.extractLsb' 8 7 ++ w.extractLsb' 4 4 ++ w.extractLsb' 0 4 = w := by
  rw [extract_append_extract w 8 7 1, extract_append_extract w 4 4 8, extract_append_extract w 0 4 12,
    BitVec.extractLsb'_eq_self]

theorem pressureTemperature_fields (w : BitVec 40) :
    w.extractLsb' 22 18 ++ w.extractLsb' 20 2 ++ w.extractLsb' 16 4 ++ w.extractLsb' 15 1 ++ w.extractLsb' 8 7 ++
      w.extractLsb' 4 4 ++ w.extractLsb' 0 4 = w := by
  rw [extract_append_extract w 20 2 18, extract_append_extract w 16 4 20, extract_append_extract w 15 1 24,
    extract_append_extract w 8 7 25, extract_append_extract w 4 4 32, extract_append_extract w 0 4 36,
    BitVec.extractLsb'_eq_self]

/-- The fields of a STATUS byte: bit 3 between the two ignored parts (R85). -/
theorem status_fields (b : Byte) : b.extractLsb' 4 4 ++ b.extractLsb' 3 1 ++ b.extractLsb' 0 3 = b := by
  rw [extract_append_extract b 3 1 4, extract_append_extract b 0 3 5, BitVec.extractLsb'_eq_self]

theorem bytes24_append (m c l : Byte) : bytes24 (m ++ c ++ l) = [m, c, l] := by
  obtain ⟨h, hl⟩ := append_inj (append_bytes24 (m ++ c ++ l))
  obtain ⟨hm, hc⟩ := append_inj h
  rw [bytes24, hm, hc, hl]

theorem bytes40_append (m c l t u : Byte) : bytes40 (m ++ c ++ l ++ t ++ u) = [m, c, l, t, u] := by
  obtain ⟨h, hu⟩ := append_inj (append_bytes40 (m ++ c ++ l ++ t ++ u))
  obtain ⟨h, ht⟩ := append_inj h
  obtain ⟨h, hl⟩ := append_inj h
  obtain ⟨hm, hc⟩ := append_inj h
  rw [bytes40, hm, hc, hl, ht, hu]

/-! ### Decoding an encoded row -/

/-- R82: an opcode outside 0x01 to 0x06 reads as the ILLEGAL row. -/
theorem decodeCommand_unnamed (a : Byte) {op : Byte} (h : namedOpcode op = false) :
    decodeCommand a op = .illegal a op := by
  unfold decodeCommand
  split_ifs with h1 h2 h3 h4 h5 h6
  case neg => rfl
  all_goals subst op; revert h; decide

/-- R85: a STATUS byte reads by its bit 3, and its other bits are kept as they are. -/
theorem decodeStatus_append (hi : BitVec 4) (bit : BitVec 1) (lo : BitVec 3) :
    decodeStatus (hi ++ bit ++ lo) = if bit = 1#1 then .statusReady hi lo else .statusNotReady hi lo := by
  obtain ⟨h, hlo⟩ := append_inj (status_fields (hi ++ bit ++ lo))
  obtain ⟨hhi, hbit⟩ := append_inj h
  rw [decodeStatus, hhi, hbit, hlo]

theorem decode_s3Pressure (int : BitVec 18) (frac : BitVec 2) (low : BitVec 4) :
    decode .pressure (bytes24 (int ++ frac ++ low)) = .ok (.s3Pressure int frac low) := by
  obtain ⟨h, hlow⟩ := append_inj (pressure_fields (int ++ frac ++ low))
  obtain ⟨hint, hfrac⟩ := append_inj h
  simp only [bytes24, decode, decodePressure, append_bytes24, hint, hfrac, hlow]

theorem decode_s3Altitude (sign : BitVec 1) (int : BitVec 15) (frac low : BitVec 4) :
    decode .altitude (bytes24 (sign ++ int ++ frac ++ low)) = .ok (.s3Altitude sign int frac low) := by
  obtain ⟨h, hlow⟩ := append_inj (altitude_fields (sign ++ int ++ frac ++ low))
  obtain ⟨h, hfrac⟩ := append_inj h
  obtain ⟨hsign, hint⟩ := append_inj h
  simp only [bytes24, decode, decodeAltitude, append_bytes24, hsign, hint, hfrac, hlow]

theorem decode_s2Temperature (sign : BitVec 1) (int : BitVec 7) (frac low : BitVec 4) :
    decode .temperature (bytes16 (sign ++ int ++ frac ++ low)) = .ok (.s2Temperature sign int frac low) := by
  obtain ⟨h, hlow⟩ := append_inj (temperature_fields (sign ++ int ++ frac ++ low))
  obtain ⟨h, hfrac⟩ := append_inj h
  obtain ⟨hsign, hint⟩ := append_inj h
  simp only [bytes16, decode, decodeTemperature, ← word_eq_bytes, hsign, hint, hfrac, hlow]

theorem decode_s5PressureTemperature (int : BitVec 18) (frac : BitVec 2) (low : BitVec 4) (tsign : BitVec 1)
    (tint : BitVec 7) (tfrac tlow : BitVec 4) :
    decode .pressureTemperature (bytes40 (int ++ frac ++ low ++ tsign ++ tint ++ tfrac ++ tlow)) =
      .ok (.s5PressureTemperature int frac low tsign tint tfrac tlow) := by
  obtain ⟨h, htlow⟩ := append_inj (pressureTemperature_fields (int ++ frac ++ low ++ tsign ++ tint ++ tfrac ++ tlow))
  obtain ⟨h, htfrac⟩ := append_inj h
  obtain ⟨h, htint⟩ := append_inj h
  obtain ⟨h, htsign⟩ := append_inj h
  obtain ⟨h, hlow⟩ := append_inj h
  obtain ⟨hint, hfrac⟩ := append_inj h
  simp only [bytes40, decode, decodePressureTemperature, append_bytes40, hint, hfrac, hlow, htsign, htint, htfrac, htlow]

/-- Settles O27, row by row: the command, transaction and pattern words are told apart by their constants; ILLEGAL needs its
opcode unnamed; a sample's fields are read back from the word they were put side by side in. -/
theorem decodeOfEncodeIsTheInstruction : Obligations.DecodeOfEncodeIsTheInstruction := by
  intro i hw
  cases i
  case illegal a op =>
    have hop : namedOpcode op = false := by simpa [Instr.wellFormed] using hw
    exact congrArg Except.ok (decodeCommand_unnamed a hop)
  case statusReady hi lo => exact congrArg Except.ok (decodeStatus_append hi 1#1 lo)
  case statusNotReady hi lo => exact congrArg Except.ok (decodeStatus_append hi 0#1 lo)
  case s3Pressure int frac low => exact decode_s3Pressure int frac low
  case s3Altitude sign int frac low => exact decode_s3Altitude sign int frac low
  case s2Temperature sign int frac low => exact decode_s2Temperature sign int frac low
  case s5PressureTemperature int frac low tsign tint tfrac tlow =>
    exact decode_s5PressureTemperature int frac low tsign tint tfrac tlow
  all_goals rfl

/-! ### Encoding a decoded word -/

/-- `i` is a row whose word in the place `p` is `bytes`. -/
def Reads (p : Place) (bytes : List Byte) (i : Instr) : Prop :=
  i.wellFormed = true ∧ i.place = p ∧ encode i = bytes

theorem reads_decodeCommand (a op : Byte) : Reads .command [a, op] (decodeCommand a op) := by
  unfold decodeCommand
  split_ifs with h1 h2 h3 h4 h5 h6
  case neg =>
    have hop : namedOpcode op = false := unnamed_of_ne h1 h2 h3 h4 h5 h6
    exact ⟨by simp [Instr.wellFormed, hop], rfl, rfl⟩
  all_goals subst op; exact ⟨rfl, rfl, rfl⟩

theorem reads_of_decodeWrite {d reg v : Byte} {i : Instr} (h : decodeWrite d reg v = .ok i) :
    Reads .writeTxn [d, reg, v] i := by
  unfold decodeWrite at h
  split_ifs at h with h1 h2 h3 h4
  all_goals cases h; obtain ⟨rfl, rfl⟩ := ‹_ ∧ _›; exact ⟨rfl, rfl, rfl⟩

theorem reads_of_decodeRead {d reg n : Byte} {i : Instr} (h : decodeRead d reg n = .ok i) :
    Reads .readTxn [d, reg, n] i := by
  unfold decodeRead at h
  split_ifs at h with h1 h2 h3 h4 h5
  all_goals cases h; obtain ⟨rfl, rfl⟩ := ‹_ ∧ _›; exact ⟨rfl, rfl, rfl⟩

theorem reads_of_decodeCtrl {b : Byte} {i : Instr} (h : decodeCtrl b = .ok i) : Reads .ctrlReg1 [b] i := by
  unfold decodeCtrl at h
  split_ifs at h with h1 h2 h3
  all_goals cases h; subst b; exact ⟨rfl, rfl, rfl⟩

/-- The tested bit is 1 or 0, and the row says which: either way the byte's three parts are as they were. -/
theorem reads_decodeStatus (b : Byte) : Reads .status [b] (decodeStatus b) := by
  unfold decodeStatus
  split_ifs with h
  · refine ⟨rfl, rfl, ?_⟩
    rw [encode, ← h, status_fields]
  · have h0 : b.extractLsb' 3 1 = 0#1 := (BitVec.eq_zero_or_eq_one _).resolve_right h
    refine ⟨rfl, rfl, ?_⟩
    rw [encode, ← h0, status_fields]

theorem reads_decodePressure (m c l : Byte) : Reads .pressure [m, c, l] (decodePressure m c l) :=
  ⟨rfl, rfl, by simp only [decodePressure, encode, pressure_fields, bytes24_append]⟩

theorem reads_decodeAltitude (m c l : Byte) : Reads .altitude [m, c, l] (decodeAltitude m c l) :=
  ⟨rfl, rfl, by simp only [decodeAltitude, encode, altitude_fields, bytes24_append]⟩

theorem reads_decodeTemperature (m l : Byte) : Reads .temperature [m, l] (decodeTemperature m l) :=
  ⟨rfl, rfl, by simp only [decodeTemperature, encode, temperature_fields, bytes16_append]⟩

theorem reads_decodePressureTemperature (m c l t u : Byte) :
    Reads .pressureTemperature [m, c, l, t, u] (decodePressureTemperature m c l t u) :=
  ⟨rfl, rfl, by simp only [decodePressureTemperature, encode, pressureTemperature_fields, bytes40_append]⟩

/-- Settles O28, place by place: each place's reader gives a row of that place whose word is the bytes read. -/
theorem encodeOfDecodeIsTheWord : Obligations.EncodeOfDecodeIsTheWord := by
  intro p bytes i h
  change Reads p bytes i
  unfold decode at h
  split at h
  case h_1 a op => cases h; exact reads_decodeCommand a op
  case h_2 => exact reads_of_decodeWrite h
  case h_3 => exact reads_of_decodeRead h
  case h_4 =>
    split_ifs at h with hb
    cases h; subst hb; exact ⟨rfl, rfl, rfl⟩
  case h_5 => exact reads_of_decodeCtrl h
  case h_6 =>
    split_ifs at h with hb
    cases h; subst hb; exact ⟨rfl, rfl, rfl⟩
  case h_7 b => cases h; exact reads_decodeStatus b
  case h_8 m c l => cases h; exact reads_decodePressure m c l
  case h_9 m c l => cases h; exact reads_decodeAltitude m c l
  case h_10 m l => cases h; exact reads_decodeTemperature m l
  case h_11 m c l t u => cases h; exact reads_decodePressureTemperature m c l t u
  case h_12 => cases h

/-- Settles O26: nine words, read by the tables. -/
theorem writtenWordsDecode : Obligations.WrittenWordsDecode := by
  refine ⟨?command, ?illegal, ?write, ?read, ?unlistedWrite, ?status, ?otherDevice, ?altitude, ?pressureTemperature⟩
  all_goals decide

end Sys2Proof.Machine
end

section
/-! What a step does to the registers (42_operations R176, 60_exceptions R200): the moves of the block with the answer's
branches taken apart, so that every later rule is one case per effect, with one case for all failures. -/

namespace Sys2Proof.Machine

/-! ### Answers and their branches -/

/-- R54: an answer to a read of one byte is that byte or a bus error. -/
theorem answerIs_read_one {s : State} {d reg : Byte} {r : Reply} {rest : List Answer}
    (h : s.answerIs (.rd d reg 1#8) r rest) : r = .busError ∨ ∃ b, r = .ok [b] := by
  rcases h with ⟨-, rfl⟩ | ⟨bytes, -, rfl⟩
  · exact .inl rfl
  by_cases hl : bytes.length = 1
  · obtain ⟨b, rfl⟩ := List.length_eq_one_iff.1 hl
    exact .inr ⟨b, rfl⟩
  · exact .inl (if_neg hl)

/-- R54: an answer to a write carries nothing, or is a bus error. -/
theorem answerIs_write {s : State} {d reg v : Byte} {r : Reply} {rest : List Answer}
    (h : s.answerIs (.wr d reg v) r rest) : r = .busError ∨ r = .ok [] := by
  rcases h with ⟨-, rfl⟩ | ⟨bytes, -, rfl⟩
  · exact .inl rfl
  · exact .inr rfl

theorem onIdentity_fail {b : Byte} (s : State) (h : b ≠ 0xC4#8) :
    s.onIdentity b = s.raise .identityMismatch false b := by
  simp [State.onIdentity, idChk_iff, h]

theorem onStatus_ready {b : Byte} (bound : PollBound) (s : State) (h : rdy b = true) :
    s.onStatus bound b = { s with st := .dataReady } :=
  if_pos h

theorem onStatus_spent {bound : PollBound} {b : Byte} (s : State) (h : rdy b = false)
    (hs : budgetSpent bound s.pollCnt = true) : s.onStatus bound b = s.raise .acquisitionTimeout false b := by
  simp [State.onStatus, State.onNotReady, h, hs]

theorem onStatus_again {bound : PollBound} {b : Byte} (s : State) (h : rdy b = false)
    (hs : budgetSpent bound s.pollCnt = false) : s.onStatus bound b = { s with pollCnt := s.pollCnt + 1 } := by
  simp [State.onStatus, State.onNotReady, h, hs]

theorem rdy_eq_true_iff (b : Byte) : rdy b = true ↔ b &&& 0x08#8 ≠ 0#8 := by
  simp [rdy]

theorem rdy_eq_false_iff (b : Byte) : rdy b = false ↔ b &&& 0x08#8 = 0#8 := by
  simp [rdy]

/-! ### The converter's results are numbers of the format (41_convert R131) -/

theorem decA_canonical (m c l : Byte) : (ofExact (decA m c l)).canonical = true :=
  ofExact_canonical (show 0 < 65536 by decide)

theorem decT_canonical (t u : Byte) : (ofExact (decT t u)).canonical = true :=
  ofExact_canonical (show 0 < 256 by decide)

theorem convP_canonical (p : Binary64) :
    (convP p).v0.canonical = true ∧ (convP p).v1.canonical = true ∧ (convP p).v2.canonical = true := by
  simp [convP]

theorem convSlp_canonical (x : Binary64) : (convSlp x).v1.canonical = true ∧ (convSlp x).v2.canonical = true := by
  simp [convSlp]

/-! ### The transaction that is issued -/

/-- R162: the second setup write and the burst of the running cycle. -/
theorem request_ctrl {s : State} {c : Cycle} (hst : s.st = .configWritten) (hsub : s.sub = true)
    (hc : s.cycle = some c) : s.request = some (.wr s.devAddr 0x26#8 c.ctrlPat) := by
  simp [State.request, hst, hsub, hc]

theorem request_burst {s : State} {c : Cycle} (hst : s.st = .dataReady) (hc : s.cycle = some c) :
    s.request = some (.rd s.devAddr c.start c.count) := by
  simp [State.request, hst, hc]

theorem request_ptcfg {s : State} (hst : s.st = .configWritten) (hsub : s.sub = false) :
    s.request = some (.wr s.devAddr 0x13#8 0x07#8) := by
  simp [State.request, hst, hsub]

theorem request_status {s : State} (hst : s.st = .polling) : s.request = some (.rd s.devAddr 0x00#8 1#8) := by
  simp [State.request, hst]

theorem request_identity {s : State} (hst : s.st = .single) (hop : s.opc = 0x01#8) :
    s.request = some (.rd s.devAddr 0x0C#8 1#8) := by
  simp [State.request, hst, hop]

theorem request_standby {s : State} (hst : s.st = .single) (hop : s.opc = 0x06#8) :
    s.request = some (.wr s.devAddr 0x26#8 0x38#8) := by
  simp [State.request, hst, hop]

theorem request_idle {s : State} (hst : s.st = .idle) : s.request = none := by
  simp [State.request, hst]

theorem request_decoded {s : State} (hst : s.st = .decoded) : s.request = none := by
  simp [State.request, hst]

/-! ### The effects of a step -/

/-- What ends a command at its transaction `x` answered `r` (60_exceptions R201 to R203): the error, its cause and its
detail. -/
inductive Failure (s : State) : Txn → Reply → ErrKind → Bool → Byte → Prop where
  | wrongDevice (b : Byte) (hst : s.st = .single) (hop : s.opc = 0x01#8) (hb : b ≠ 0xC4#8) :
      Failure s (.rd s.devAddr 0x0C#8 1#8) (.ok [b]) .identityMismatch false b
  | noIdentity (hst : s.st = .single) (hop : s.opc = 0x01#8) :
      Failure s (.rd s.devAddr 0x0C#8 1#8) .busError .identityMismatch true 0#8
  | ptcfg : Failure s (.wr s.devAddr 0x13#8 0x07#8) .busError .busError false 0x13#8
  | ctrl (v : Byte) : Failure s (.wr s.devAddr 0x26#8 v) .busError .busError false 0x26#8
  | read (reg n : Byte) : Failure s (.rd s.devAddr reg n) .busError .busError false reg
  | timeout (b : Byte) (hst : s.st = .polling) (hb : rdy b = false)
      (hs : budgetSpent Config.pollMax s.pollCnt = true) :
      Failure s (.rd s.devAddr 0x00#8 1#8) (.ok [b]) .acquisitionTimeout false b

/-- R167: the kind of record the Decoded step of the running command and cycle gives. -/
def State.delivers (s : State) (k : ResKind) : Prop :=
  k = .pressure ∧ s.opc = 0x02#8 ∨ k = .altitude ∧ s.opc = 0x03#8 ∨ k = .temp ∧ s.opc = 0x04#8 ∨
    k = .slp ∧ s.opc = 0x05#8 ∧ s.phase = true

/-- The effects of one step of the block. -/
inductive Effect (s : State) : State → Prop where
  | rest (hst : s.st = .idle) : Effect s s
  | illegal (a op : Byte) (hst : s.st = .idle) (hb : s.busy = false) (hp : s.cmdPort = some (a ++ op))
      (hop : namedOpcode op = false) : Effect s ((s.accept op).raise .illegalCommand false op)
  | unconstructed (a op : Byte) (hst : s.st = .idle) (hb : s.busy = false) (hp : s.cmdPort = some (a ++ op))
      (hop : namedOpcode op = true) (h1 : op ≠ 0x01#8) (hid : s.identOk = false) :
      Effect s ((s.accept op).raise .notConstructed false op)
  | construct (a : Byte) (hst : s.st = .idle) (hb : s.busy = false) (hp : s.cmdPort = some (a ++ 0x01#8)) :
      Effect s { s.accept 0x01#8 with devAddr := a, identOk := false, busy := true, st := .single }
  | acquire (a op : Byte) (hst : s.st = .idle) (hb : s.busy = false) (hp : s.cmdPort = some (a ++ op))
      (hop : acquisitionOpcode op = true) (hid : s.identOk = true) :
      Effect s { s.accept op with busy := true, st := .configWritten }
  | standby (a : Byte) (hst : s.st = .idle) (hb : s.busy = false) (hp : s.cmdPort = some (a ++ 0x06#8))
      (hid : s.identOk = true) : Effect s { s.accept 0x06#8 with busy := true, st := .single }
  | wait (x : Txn) (rest : List Answer) (hr : s.request = some x) (ha : s.noAnswer rest) : Effect s (s.waiting x rest)
  | failed (x : Txn) (r : Reply) (rest : List Answer) (e : ErrKind) (cause : Bool) (info : Byte)
      (hr : s.request = some x) (hf : Failure s x r e cause info) (ha : s.answerIs x r rest) :
      Effect s ((s.answered x r rest).raise e cause info)
  | identified (rest : List Answer) (hst : s.st = .single) (hop : s.opc = 0x01#8)
      (ha : s.answerIs (.rd s.devAddr 0x0C#8 1#8) (.ok [0xC4#8]) rest) :
      Effect s { s.answered (.rd s.devAddr 0x0C#8 1#8) (.ok [0xC4#8]) rest with identOk := true }.finish
  | standbyDone (rest : List Answer) (hst : s.st = .single) (hop : s.opc = 0x06#8)
      (ha : s.answerIs (.wr s.devAddr 0x26#8 0x38#8) (.ok []) rest) :
      Effect s (s.answered (.wr s.devAddr 0x26#8 0x38#8) (.ok []) rest).finish
  | setUp (rest : List Answer) (hst : s.st = .configWritten) (hsub : s.sub = false)
      (ha : s.answerIs (.wr s.devAddr 0x13#8 0x07#8) (.ok []) rest) :
      Effect s { s.answered (.wr s.devAddr 0x13#8 0x07#8) (.ok []) rest with sub := true }
  | configured (c : Cycle) (rest : List Answer) (hst : s.st = .configWritten) (hsub : s.sub = true)
      (hc : s.cycle = some c) (ha : s.answerIs (.wr s.devAddr 0x26#8 c.ctrlPat) (.ok []) rest) :
      Effect s { s.answered (.wr s.devAddr 0x26#8 c.ctrlPat) (.ok []) rest with
        sub := false, pollCnt := 0, st := .polling }
  | ready (b : Byte) (rest : List Answer) (hst : s.st = .polling) (hb : rdy b = true)
      (ha : s.answerIs (.rd s.devAddr 0x00#8 1#8) (.ok [b]) rest) :
      Effect s { s.answered (.rd s.devAddr 0x00#8 1#8) (.ok [b]) rest with st := .dataReady }
  | again (b : Byte) (rest : List Answer) (hst : s.st = .polling) (hb : rdy b = false)
      (hs : budgetSpent Config.pollMax s.pollCnt = false)
      (ha : s.answerIs (.rd s.devAddr 0x00#8 1#8) (.ok [b]) rest) :
      Effect s { s.answered (.rd s.devAddr 0x00#8 1#8) (.ok [b]) rest with pollCnt := s.pollCnt + 1 }
  | loaded (c : Cycle) (bytes : List Byte) (rest : List Answer) (hst : s.st = .dataReady) (hc : s.cycle = some c)
      (ha : s.answerIs (.rd s.devAddr c.start c.count) (.ok bytes) rest) :
      Effect s { (s.answered (.rd s.devAddr c.start c.count) (.ok bytes) rest).loadRaw bytes with st := .decoded }
  | hold (p t : Binary64) (hst : s.st = .decoded) (hop : s.opc = 0x05#8) (hp : p.canonical = true)
      (ht : t.canonical = true) (hph : s.phase = false) :
      Effect s { s.dropRaw with hPmbar := p, hTc := t, phase := true, sub := false, st := .configWritten }
  | deliver (k : ResKind) (x0 x1 x2 : Binary64) (n : Nat) (hst : s.st = .decoded) (hk : s.delivers k)
      (h0 : x0.canonical = true) (h1 : x1.canonical = true) (h2 : x2.canonical = true) :
      Effect s { s with v0 := x0, v1 := x1, v2 := x2, resKind := k, free := n }.finish

/-- R161 cases 3 to 5: a command other than CONSTRUCT begins, or the block is not constructed. -/
theorem effect_of_beginIn {s t : State} {op : Byte} {target : SeqState}
    (hgo : s.identOk = true → Effect s { s.accept op with busy := true, st := target })
    (hno : s.identOk = false → Effect s ((s.accept op).raise .notConstructed false op))
    (ht : t = (s.accept op).beginIn target) : Effect s t := by
  cases hid : s.identOk with
  | true => exact ht ▸ beginIn_constructed (t := s.accept op) target hid ▸ hgo hid
  | false => exact ht ▸ beginIn_unconstructed (t := s.accept op) target hid ▸ hno hid

theorem effect_of_move {s t : State} (h : BlockMove s t) : Effect s t := by
  cases h with
  | rest hst => exact .rest hst
  | illegal a op hst hb hp hop => exact .illegal a op hst hb hp hop
  | construct a hst hb hp => exact .construct a hst hb hp
  | acquire a op hst hb hp hop =>
    obtain ⟨hacq, hnamed, h1⟩ : acquisitionOpcode op = true ∧ namedOpcode op = true ∧ op ≠ 0x01#8 := by
      rcases hop with rfl | rfl | rfl | rfl <;> decide
    exact effect_of_beginIn (.acquire a op hst hb hp hacq) (.unconstructed a op hst hb hp hnamed h1) rfl
  | standby a hst hb hp =>
    exact effect_of_beginIn (.standby a hst hb hp)
      (.unconstructed a 0x06#8 hst hb hp (by decide) (by decide)) rfl
  | wait x rest hr ha => exact .wait x rest hr ha
  | identity r rest hst hop ha =>
    rcases answerIs_read_one ha with rfl | ⟨b, rfl⟩
    · exact .failed _ _ rest _ _ _ (request_identity hst hop) (.noIdentity hst hop) ha
    · by_cases hb : b = 0xC4#8
      · subst hb
        exact .identified rest hst hop ha
      · change Effect s (State.onIdentity _ b)
        rw [onIdentity_fail _ hb]
        exact .failed _ _ rest _ _ _ (request_identity hst hop) (.wrongDevice b hst hop hb) ha
  | standbyWrite r rest hst hop ha =>
    rcases answerIs_write ha with rfl | rfl
    · exact .failed _ _ rest _ _ _ (request_standby hst hop) (.ctrl _) ha
    · exact .standbyDone rest hst hop ha
  | ptcfg r rest hst hsub ha =>
    rcases answerIs_write ha with rfl | rfl
    · exact .failed _ _ rest _ _ _ (request_ptcfg hst hsub) .ptcfg ha
    · exact .setUp rest hst hsub ha
  | ctrl c r rest hst hsub hc ha =>
    rcases answerIs_write ha with rfl | rfl
    · exact .failed _ _ rest _ _ _ (request_ctrl hst hsub hc) (.ctrl _) ha
    · exact .configured c rest hst hsub hc ha
  | status r rest hst ha =>
    rcases answerIs_read_one ha with rfl | ⟨b, rfl⟩
    · exact .failed _ _ rest _ _ _ (request_status hst) (.read _ _) ha
    · change Effect s (State.onStatus Config.pollMax _ b)
      cases hb : rdy b with
      | true =>
        rw [onStatus_ready _ _ hb]
        exact .ready b rest hst hb ha
      | false =>
        cases hs : budgetSpent Config.pollMax s.pollCnt with
        | true =>
          rw [onStatus_spent (s.answered _ _ rest) hb hs]
          exact .failed _ _ rest _ _ _ (request_status hst) (.timeout b hst hb hs) ha
        | false =>
          rw [onStatus_again (s.answered _ _ rest) hb hs]
          exact .again b rest hst hb hs ha
  | burst c r rest hst hc ha =>
    cases r with
    | busError => exact .failed _ _ rest _ _ _ (request_burst hst hc) (.read _ _) ha
    | ok bytes => exact .loaded c bytes rest hst hc ha
  | pressure hst hop =>
    obtain ⟨h0, h1, h2⟩ := convP_canonical (ofExact (decP s.raw.b0 s.raw.b1 s.raw.b2))
    exact .deliver .pressure _ _ _ s.free hst (.inl ⟨rfl, hop⟩) h0 h1 h2
  | altitude hst hop =>
    exact .deliver .altitude _ _ _ (s.free + 1) hst (.inr (.inl ⟨rfl, hop⟩)) (decA_canonical _ _ _)
      (numMul_canonical _ _) (renorm_canonical _)
  | temp hst hop =>
    exact .deliver .temp _ _ _ s.free hst (.inr (.inr (.inl ⟨rfl, hop⟩))) (decT_canonical _ _)
      (numAdd_canonical _ _) (numAdd_canonical _ _)
  | hold hst hop hph =>
    exact .hold _ _ hst hop (convP_canonical _).1 (decT_canonical _ _) hph
  | slp hst hop hph =>
    obtain ⟨h1, h2⟩ := convSlp_canonical (slp s.hPmbar s.hTc (ofExact (decA s.raw.b0 s.raw.b1 s.raw.b2)))
    exact .deliver .slp _ _ _ s.free hst (.inr (.inr (.inr ⟨rfl, hop, hph⟩))) (numMul_canonical _ _) h1 h2

/-- What a step that goes on has done, the host's turn as a change to the command port and its own list. -/
theorem step_effect {s t : State} (h : step s = .next t) :
    ∃ port, s.hostTurn.1 = { s with host := s.host.tail, cmdPort := port } ∧
      ((s.hostTurn.2 = true ∧ t = State.resetStep { s with host := s.host.tail, cmdPort := port }) ∨
        (s.hostTurn.2 = false ∧ Effect { s with host := s.host.tail, cmdPort := port } t)) := by
  obtain ⟨port, hu⟩ := hostTurn_fst s
  refine ⟨port, hu, ?_⟩
  rw [← hu]
  exact (step_move h).imp_right (And.imp_right effect_of_move)

end Sys2Proof.Machine
end

section
/-! The invariants of the register file (10_state R41) along every step, and that every state with them has a step
(42_operations R176). -/

namespace Sys2Proof

/-- R11: a bound is positive, so the first STATUS read is always allowed. -/
theorem PollBound.allows_zero (bound : PollBound) : bound.allows 0 = true := by
  cases bound with
  | inf => rfl
  | reads n pos => simpa [PollBound.allows] using pos

/-- R165: a read that does not spend the budget leaves room for one more. -/
theorem PollBound.allows_succ {bound : PollBound} {n : Nat} (ha : bound.allows n = true)
    (hs : Machine.budgetSpent bound n = false) : bound.allows (n + 1) = true := by
  cases bound with
  | inf => rfl
  | reads m pos =>
    simp only [PollBound.allows, decide_eq_true_eq] at ha ⊢
    simp only [Machine.budgetSpent, beq_eq_false_iff_ne] at hs
    omega

end Sys2Proof

namespace Sys2Proof.Machine

/-! ### States with the invariants -/

/-- R41 (a) to (d): while a command runs there is neither outcome. -/
theorem State.Inv.running {s : State} (h : s.Inv) (hst : s.st ≠ .idle) :
    s.busy = true ∧ s.done = false ∧ s.resKind = .none ∧ s.errKind = .none := by
  have hb : s.busy = true := h.busy_iff.2 hst
  have hd : s.done = false := by simpa [hb] using h.not_both
  refine ⟨hb, hd, ?_, ?_⟩
  · by_contra hr
    simp [(h.result hr).1] at hd
  · by_contra he
    simp [(h.error he).1] at hd

/-- A command has ended, with at most one of the two outcomes. -/
theorem inv_of_ended {t : State} (hst : t.st = .idle) (hb : t.busy = false) (hd : t.done = true)
    (hx : t.resKind = .none ∨ t.errKind = .none) (hph : t.phase = true → t.opc = 0x05#8) : t.Inv where
  busy_iff := by simp [hst, hb]
  not_both := by simp [hb]
  result := by simpa [hd, or_iff_not_imp_left] using hx
  error := by simpa [hd, or_iff_not_imp_right] using hx
  cycle := by simp [hst, SeqState.inCycle]
  phase := hph
  budget := by simp [hst]
  single := by simp [hst]
  construct := by simp [hst]
  standby := by simp [hst]

/-- 60_exceptions R206: whatever is raised, the command has ended with no result. -/
theorem raise_inv {s : State} (e : ErrKind) (cause : Bool) (info : Byte) (hph : s.phase = true → s.opc = 0x05#8) :
    (s.raise e cause info).Inv :=
  inv_of_ended rfl rfl rfl (.inl rfl) hph

theorem finish_inv {s : State} (hx : s.resKind = .none ∨ s.errKind = .none)
    (hph : s.phase = true → s.opc = 0x05#8) : s.finish.Inv :=
  inv_of_ended rfl rfl rfl hx hph

/-- An acquisition cycle is under way, with no outcome yet. -/
theorem inv_of_inCycle {t : State} (hst : t.st.inCycle = true) (hb : t.busy = true) (hd : t.done = false)
    (hr : t.resKind = .none) (he : t.errKind = .none) (hid : t.identOk = true) (hop : acquisitionOpcode t.opc = true)
    (hph : t.phase = true → t.opc = 0x05#8) (hbud : t.st = .polling → Config.pollMax.allows t.pollCnt = true) :
    t.Inv where
  busy_iff := by
    have hne : t.st ≠ .idle := by rintro h; simp [h, SeqState.inCycle] at hst
    simp [hb, hne]
  not_both := by simp [hd]
  result := by simp [hr]
  error := by simp [he]
  cycle := fun _ => ⟨hid, hop⟩
  phase := hph
  budget := hbud
  single := by rintro h; simp [h, SeqState.inCycle] at hst
  construct := by rintro h; simp [h, SeqState.inCycle] at hst
  standby := by rintro h; simp [h, SeqState.inCycle] at hst

/-- From cycle state to cycle state: the registers of R41 (a) to (e) stand as they were. -/
theorem State.Inv.stay_inCycle {s t : State} (h : s.Inv) (hs : s.st.inCycle = true) (ht : t.st.inCycle = true)
    (hb : t.busy = s.busy) (hd : t.done = s.done) (hr : t.resKind = s.resKind) (he : t.errKind = s.errKind)
    (hid : t.identOk = s.identOk) (hop : t.opc = s.opc) (hph : t.phase = true → s.opc = 0x05#8)
    (hbud : t.st = .polling → Config.pollMax.allows t.pollCnt = true) : t.Inv := by
  have hne : s.st ≠ .idle := by rintro h; simp [h, SeqState.inCycle] at hs
  obtain ⟨hb', hd', hr', he'⟩ := h.running hne
  obtain ⟨hid', hop'⟩ := h.cycle hs
  exact inv_of_inCycle ht (hb.trans hb') (hd.trans hd') (hr.trans hr') (he.trans he') (hid.trans hid')
    (hop ▸ hop') (hop ▸ hph) hbud

/-- The invariants do not speak of the host's inputs. -/
theorem State.Inv.of_host {s : State} (h : s.Inv) (port : Option CommandWord) (later : List HostAction) :
    State.Inv { s with host := later, cmdPort := port } :=
  ⟨h.busy_iff, h.not_both, h.result, h.error, h.cycle, h.phase, h.budget, h.single, h.construct, h.standby⟩

theorem resetStep_inv (s : State) : s.resetStep.Inv := by
  constructor <;> simp [State.reset, SeqState.inCycle]

/-! ### Every step keeps the invariants -/

theorem effect_inv {s t : State} (hi : s.Inv) (h : Effect s t) : t.Inv := by
  cases h with
  | rest hst => exact hi
  | illegal a op => exact raise_inv _ _ _ (by simp)
  | unconstructed a op => exact raise_inv _ _ _ (by simp)
  | construct a => constructor <;> simp [SeqState.inCycle]
  | acquire a op hst hb hp hop hid => exact inv_of_inCycle rfl rfl rfl rfl rfl hid hop (by simp) (by simp)
  | standby a hst hb hp hid => constructor <;> simp [SeqState.inCycle, hid]
  | wait x rest hr =>
    exact ⟨hi.busy_iff, hi.not_both, hi.result, hi.error, hi.cycle, hi.phase, hi.budget, hi.single, hi.construct,
      hi.standby⟩
  | failed x r rest e cause info hr hf => exact raise_inv _ _ _ hi.phase
  | identified rest hst hop =>
    obtain ⟨-, -, hr, -⟩ := hi.running (by simp [hst])
    exact finish_inv (.inl hr) hi.phase
  | standbyDone rest hst hop =>
    obtain ⟨-, -, hr, -⟩ := hi.running (by simp [hst])
    exact finish_inv (.inl hr) hi.phase
  | setUp rest hst hsub =>
    exact hi.stay_inCycle (by rw [hst]; rfl) (by simp [hst, SeqState.inCycle]) rfl rfl rfl rfl rfl rfl hi.phase
      (by simp [hst])
  | configured c rest hst hsub hc =>
    exact hi.stay_inCycle (by rw [hst]; rfl) rfl rfl rfl rfl rfl rfl rfl hi.phase
      fun _ => PollBound.allows_zero _
  | ready b rest hst hb =>
    exact hi.stay_inCycle (by rw [hst]; rfl) rfl rfl rfl rfl rfl rfl rfl hi.phase (by simp)
  | again b rest hst hb hs =>
    exact hi.stay_inCycle (by rw [hst]; rfl) (by simp [hst, SeqState.inCycle]) rfl rfl rfl rfl rfl rfl hi.phase
      fun _ => PollBound.allows_succ (hi.budget hst) hs
  | loaded c bytes rest hst hc =>
    exact hi.stay_inCycle (by rw [hst]; rfl) rfl rfl rfl rfl rfl rfl rfl hi.phase (by simp)
  | hold p t hst hop hp ht =>
    exact hi.stay_inCycle (by rw [hst]; rfl) rfl rfl rfl rfl rfl rfl rfl (fun _ => hop) (by simp)
  | deliver k x0 x1 x2 n hst hk =>
    obtain ⟨-, -, -, he⟩ := hi.running (by simp [hst])
    exact finish_inv (.inr he) hi.phase

/-- Settles O30: reset has the invariants, the host's turn does not touch them, and every effect keeps them. -/
theorem stepKeepsTheInvariants : Obligations.StepKeepsTheInvariants := by
  intro s t hi h
  obtain ⟨port, -, ⟨-, rfl⟩ | ⟨-, he⟩⟩ := step_effect h
  · exact resetStep_inv _
  · exact effect_inv (hi.of_host port _) he

/-! ### Numbers of the format (41_convert R131) -/

theorem raise_numInv {s : State} (e : ErrKind) (cause : Bool) (info : Byte) : (s.raise e cause info).NumInv :=
  ⟨renorm_canonical _, renorm_canonical _, renorm_canonical _, renorm_canonical _, renorm_canonical _⟩

theorem finish_numInv {s : State} (h0 : s.v0.canonical = true) (h1 : s.v1.canonical = true)
    (h2 : s.v2.canonical = true) : s.finish.NumInv :=
  ⟨h0, h1, h2, renorm_canonical _, renorm_canonical _⟩

theorem accept_numInv {s : State} (h : s.NumInv) (op : Byte) : (s.accept op).NumInv :=
  ⟨renorm_canonical _, renorm_canonical _, renorm_canonical _, h.hPmbar, h.hTc⟩

/-- The slots and the held values stand as they were. -/
theorem State.NumInv.of_eq {s t : State} (h : s.NumInv) (h0 : t.v0 = s.v0) (h1 : t.v1 = s.v1) (h2 : t.v2 = s.v2)
    (hp : t.hPmbar = s.hPmbar) (ht : t.hTc = s.hTc) : t.NumInv :=
  ⟨h0 ▸ h.v0, h1 ▸ h.v1, h2 ▸ h.v2, hp ▸ h.hPmbar, ht ▸ h.hTc⟩

theorem effect_numInv {s t : State} (hi : s.NumInv) (h : Effect s t) : t.NumInv := by
  cases h with
  | rest hst => exact hi
  | illegal a op => exact raise_numInv _ _ _
  | unconstructed a op => exact raise_numInv _ _ _
  | construct a => exact (accept_numInv hi 0x01#8).of_eq rfl rfl rfl rfl rfl
  | acquire a op => exact (accept_numInv hi op).of_eq rfl rfl rfl rfl rfl
  | standby a => exact (accept_numInv hi 0x06#8).of_eq rfl rfl rfl rfl rfl
  | wait x rest hr => exact hi.of_eq rfl rfl rfl rfl rfl
  | failed x r rest e cause info hr hf => exact raise_numInv _ _ _
  | identified rest => exact finish_numInv hi.v0 hi.v1 hi.v2
  | standbyDone rest => exact finish_numInv hi.v0 hi.v1 hi.v2
  | setUp rest => exact hi.of_eq rfl rfl rfl rfl rfl
  | configured c rest => exact hi.of_eq rfl rfl rfl rfl rfl
  | ready b rest => exact hi.of_eq rfl rfl rfl rfl rfl
  | again b rest => exact hi.of_eq rfl rfl rfl rfl rfl
  | loaded c bytes rest => exact hi.of_eq rfl rfl rfl rfl rfl
  | hold p t hst hop hp ht => exact ⟨hi.v0, hi.v1, hi.v2, hp, ht⟩
  | deliver k x0 x1 x2 n hst hk h0 h1 h2 => exact finish_numInv h0 h1 h2

/-- Settles O33: a slot or a held value is written with an operation's result or an open value, and both are numbers of the
format. -/
theorem stepKeepsTheNumbers : Obligations.StepKeepsTheNumbers := by
  intro s t hi h
  obtain ⟨port, -, ⟨-, rfl⟩ | ⟨-, he⟩⟩ := step_effect h
  · exact ⟨rfl, rfl, rfl, rfl, rfl⟩
  · refine effect_numInv ?_ he
    exact hi.of_eq rfl rfl rfl rfl rfl

end Sys2Proof.Machine
end

section
/-! The transactions the sequencer issues are the nine rows (30_encoding R84, 20_memory R57, R58), the Decoded step runs the
sample in RAW (42_operations R167), and so every state with the invariants has a step (R176). -/

namespace Sys2Proof.Machine

/-! ### The nine rows -/

/-- R84: the row of a transaction, in the order of the table. -/
theorem transactionRows_cases {d : Byte} {p : Instr × Txn} (hp : p ∈ transactionRows d) :
    p = (.rdWhoami d, .rd d 0x0C#8 1#8) ∨ p = (.wrPtcfg d, .wr d 0x13#8 0x07#8) ∨
      p = (.wrCtrlBaro d, .wr d 0x26#8 0x39#8) ∨ p = (.wrCtrlAlt d, .wr d 0x26#8 0xB9#8) ∨
      p = (.wrCtrlStby d, .wr d 0x26#8 0x38#8) ∨ p = (.rdStatus d, .rd d 0x00#8 1#8) ∨
      p = (.rdP3 d, .rd d 0x01#8 3#8) ∨ p = (.rdT2 d, .rd d 0x04#8 2#8) ∨ p = (.rdPt5 d, .rd d 0x01#8 5#8) := by
  simpa [transactionRows] using hp

theorem row_decodes {d : Byte} {p : Instr × Txn} (hp : p ∈ transactionRows d) :
    decode p.2.place p.2.bytes = .ok p.1 := by
  rcases transactionRows_cases hp with rfl | rfl | rfl | rfl | rfl | rfl | rfl | rfl | rfl <;> rfl

theorem row_device {d : Byte} {p : Instr × Txn} (hp : p ∈ transactionRows d) : p.2.device = d := by
  rcases transactionRows_cases hp with rfl | rfl | rfl | rfl | rfl | rfl | rfl | rfl | rfl <;> rfl

theorem row_listed {d : Byte} {p : Instr × Txn} (hp : p ∈ transactionRows d) : p.2.listed = true := by
  rcases transactionRows_cases hp with rfl | rfl | rfl | rfl | rfl | rfl | rfl | rfl | rfl <;> rfl

/-- R58: STATUS, the five sample registers and WHO_AM_I are the registers the block reads. -/
theorem blockReads_of_mem {r : Byte} (hr : r ∈ [0x00#8, 0x01#8, 0x02#8, 0x03#8, 0x04#8, 0x05#8, 0x0C#8]) :
    ∃ m : SensorReg, m.addr = r ∧ m.blockReads = true := by
  simp only [List.mem_cons, List.not_mem_nil, or_false] at hr
  rcases hr with rfl | rfl | rfl | rfl | rfl | rfl | rfl
  · exact ⟨.status, rfl, rfl⟩
  · exact ⟨.outPMsb, rfl, rfl⟩
  · exact ⟨.outPCsb, rfl, rfl⟩
  · exact ⟨.outPLsb, rfl, rfl⟩
  · exact ⟨.outTMsb, rfl, rfl⟩
  · exact ⟨.outTLsb, rfl, rfl⟩
  · exact ⟨.whoAmI, rfl, rfl⟩

/-- R58: a read is within the map when its consecutive registers are among those the block reads. -/
theorem read_mapped (d reg count : Byte)
    (h : ∀ r ∈ (List.range count.toNat).map (fun i => reg + BitVec.ofNat 8 i),
      r ∈ [0x00#8, 0x01#8, 0x02#8, 0x03#8, 0x04#8, 0x05#8, 0x0C#8]) : (Txn.rd d reg count).mapped :=
  fun r hr => blockReads_of_mem (h r hr)

/-- R58: a write is within the map at PT_DATA_CFG and CTRL_REG1. -/
theorem write_mapped {reg : Byte} (d v : Byte) (m : SensorReg) (ha : m.addr = reg) (hw : m.blockWrites = true) :
    (Txn.wr d reg v).mapped := by
  intro r hr
  obtain rfl : r = reg := List.mem_singleton.1 hr
  exact ⟨m, ha, hw⟩

theorem row_mapped {d : Byte} {p : Instr × Txn} (hp : p ∈ transactionRows d) : p.2.mapped := by
  rcases transactionRows_cases hp with rfl | rfl | rfl | rfl | rfl | rfl | rfl | rfl | rfl
  · exact read_mapped d _ _ (by decide)
  · exact write_mapped d _ .ptDataCfg rfl rfl
  · exact write_mapped d _ .ctrlReg1 rfl rfl
  · exact write_mapped d _ .ctrlReg1 rfl rfl
  · exact write_mapped d _ .ctrlReg1 rfl rfl
  · exact read_mapped d _ _ (by decide)
  · exact read_mapped d _ _ (by decide)
  · exact read_mapped d _ _ (by decide)
  · exact read_mapped d _ _ (by decide)

/-- The sequencer issues rows of the table alone: its own constants in `Single`, `Polling` and the first setup write, those
of R162 in the second setup write and the burst. -/
theorem row_of_request {s : State} {x : Txn} (h : s.request = some x) : ∃ i, (i, x) ∈ transactionRows s.devAddr := by
  cases hst : s.st with
  | idle => simp [request_idle hst] at h
  | decoded => simp [request_decoded hst] at h
  | single =>
    by_cases h1 : s.opc = 0x01#8
    · obtain rfl : _ = x := by simpa [request_identity hst h1] using h
      exact ⟨.rdWhoami s.devAddr, by simp [transactionRows]⟩
    · by_cases h6 : s.opc = 0x06#8
      · obtain rfl : _ = x := by simpa [request_standby hst h6] using h
        exact ⟨.wrCtrlStby s.devAddr, by simp [transactionRows]⟩
      · simp [State.request, hst, h1, h6] at h
  | configWritten =>
    cases hsub : s.sub with
    | false =>
      obtain rfl : _ = x := by simpa [request_ptcfg hst hsub] using h
      exact ⟨.wrPtcfg s.devAddr, by simp [transactionRows]⟩
    | true =>
      cases hc : s.cycle with
      | none => simp [State.request, hst, hsub, hc] at h
      | some c =>
        obtain rfl : _ = x := by simpa [request_ctrl hst hsub hc] using h
        rcases cycle_cases hc with ⟨-, -, rfl⟩ | ⟨-, -, rfl⟩ | ⟨-, -, rfl⟩ | ⟨-, -, rfl⟩ | ⟨-, -, rfl⟩ <;>
          simp [transactionRows]
  | polling =>
    obtain rfl : _ = x := by simpa [request_status hst] using h
    exact ⟨.rdStatus s.devAddr, by simp [transactionRows]⟩
  | dataReady =>
    cases hc : s.cycle with
    | none => simp [State.request, hst, hc] at h
    | some c =>
      obtain rfl : _ = x := by simpa [request_burst hst hc] using h
      rcases cycle_cases hc with ⟨-, -, rfl⟩ | ⟨-, -, rfl⟩ | ⟨-, -, rfl⟩ | ⟨-, -, rfl⟩ | ⟨-, -, rfl⟩ <;>
        simp [transactionRows]

/-- Settles O29: a request is a row (`row_of_request`), and the rest holds of every row. -/
theorem onlyListedTransactionsAreIssued : Obligations.OnlyListedTransactionsAreIssued := by
  intro s x hx
  obtain ⟨i, hp⟩ := row_of_request hx
  exact ⟨row_device hp, row_mapped hp, (i, x), hp, rfl, row_decodes hp⟩

/-! ### The rows as steps -/

/-- The register updates of a transaction row, by its answer (R163 to R166, R168). -/
def rowUpdate : Instr → Reply → State → State
  | .rdWhoami _ => State.afterIdentity
  | .wrPtcfg _ => State.afterPtcfg
  | .wrCtrlBaro _ => State.afterCtrl
  | .wrCtrlAlt _ => State.afterCtrl
  | .wrCtrlStby _ => State.afterStandby
  | .rdStatus _ => State.afterStatus Config.pollMax
  | .rdP3 _ => State.afterBurst 0x01#8
  | .rdT2 _ => State.afterBurst 0x04#8
  | .rdPt5 _ => State.afterBurst 0x01#8
  | _ => fun _ s => s

/-- A transaction row is the sequencer's step with that transaction (R176, log 10). -/
theorem exec_transactionRow {d : Byte} {p : Instr × Txn} (hp : p ∈ transactionRows d) (s : State) :
    exec p.1 s = s.transact p.2 (rowUpdate p.1) := by
  rcases transactionRows_cases hp with rfl | rfl | rfl | rfl | rfl | rfl | rfl | rfl | rfl <;> rfl

/-- 10_state R26: a state that issues a transaction fetches its word. -/
theorem fetch_of_request {s : State} {x : Txn} (h : s.request = some x) : s.fetch = .word x.place x.bytes := by
  cases hst : s.st with
  | idle => simp [request_idle hst] at h
  | decoded => simp [request_decoded hst] at h
  | single => simp [State.fetch, hst, h]
  | configWritten => simp [State.fetch, hst, h]
  | polling => simp [State.fetch, hst, h]
  | dataReady => simp [State.fetch, hst, h]

/-- The block's step in such a state is the transaction's row. -/
theorem blockStep_of_request {s : State} {i : Instr} {x : Txn} (h : s.request = some x)
    (hp : (i, x) ∈ transactionRows s.devAddr) : blockStep s = exec i s := by
  simp [blockStep, fetch_of_request h, row_decodes hp]

/-- R176: the block's step in a state that issues a transaction. -/
theorem blockStep_transaction {s : State} {x : Txn} (h : s.request = some x) :
    ∃ i, blockStep s = .next (s.exchange x (rowUpdate i)) := by
  obtain ⟨i, hp⟩ := row_of_request h
  exact ⟨i, (blockStep_of_request h hp).trans ((exec_transactionRow hp s).trans (transact_of_request _ h))⟩

theorem exec_decodePressure (m c l : Byte) (s : State) :
    exec (decodePressure m c l) s = s.decodeStep .pressure [m, c, l] (s.deliverPressure m c l) := by
  obtain ⟨h, hl⟩ := append_inj (append_bytes24 (m ++ c ++ l))
  obtain ⟨hm, hc⟩ := append_inj h
  simp only [decodePressure, exec, execS3Pressure, pressure_fields, bytes24, hm, hc, hl]

theorem exec_decodeAltitude (m c l : Byte) (s : State) :
    exec (decodeAltitude m c l) s = s.decodeStep .altitude [m, c, l]
      (if s.opc = 0x05#8 then s.deliverSlp m c l else s.deliverAltitude m c l) := by
  obtain ⟨h, hl⟩ := append_inj (append_bytes24 (m ++ c ++ l))
  obtain ⟨hm, hc⟩ := append_inj h
  simp only [decodeAltitude, exec, execS3Altitude, altitude_fields, bytes24, hm, hc, hl]

theorem exec_decodeTemperature (m l : Byte) (s : State) :
    exec (decodeTemperature m l) s = s.decodeStep .temperature [m, l] (s.deliverTemp m l) := by
  obtain ⟨hm, hl⟩ := append_inj (word_eq_bytes (m ++ l)).symm
  simp only [decodeTemperature, exec, execS2Temperature, temperature_fields, bytes16, hm, hl]

theorem exec_decodePressureTemperature (m c l t u : Byte) (s : State) :
    exec (decodePressureTemperature m c l t u) s =
      s.decodeStep .pressureTemperature [m, c, l, t, u] (s.holdSample m c l t u) := by
  obtain ⟨h, hu⟩ := append_inj (append_bytes40 (m ++ c ++ l ++ t ++ u))
  obtain ⟨h, ht⟩ := append_inj h
  obtain ⟨h, hl⟩ := append_inj h
  obtain ⟨hm, hc⟩ := append_inj h
  simp only [decodePressureTemperature, exec, execS5PressureTemperature, pressureTemperature_fields, bytes40, hm, hc, hl,
    ht, hu]

/-- R162, R167: the sample of the running cycle. -/
theorem sample_of_cycle {s : State} {c : Cycle} (hst : s.st = .decoded) (hc : s.cycle = some c) :
    s.sample = some (c.layout, s.sampleBytes c.layout) := by
  simp [State.sample, hst, hc]

/-- The state after the Decoded step on a sample of the given layout (R167). -/
def State.runSample (s : State) : Place → State
  | .pressure => s.deliverPressure s.raw.b0 s.raw.b1 s.raw.b2
  | .altitude =>
    if s.opc = 0x05#8 then s.deliverSlp s.raw.b0 s.raw.b1 s.raw.b2 else s.deliverAltitude s.raw.b0 s.raw.b1 s.raw.b2
  | .temperature => s.deliverTemp s.raw.b0 s.raw.b1
  | .pressureTemperature => s.holdSample s.raw.b0 s.raw.b1 s.raw.b2 s.raw.b3 s.raw.b4
  | _ => s

/-- The block's step in `Decoded` runs the sample in RAW by its layout. -/
theorem blockStep_decoded {s : State} {c : Cycle} (hst : s.st = .decoded) (hc : s.cycle = some c) :
    blockStep s = .next (s.runSample c.layout) := by
  have hs := sample_of_cycle hst hc
  have run {i : Instr} {after : State} (hd : decode c.layout (s.sampleBytes c.layout) = .ok i)
      (he : exec i s = s.decodeStep c.layout (s.sampleBytes c.layout) after) : blockStep s = .next after := by
    simp [blockStep, State.fetch, hst, hs, hd, he, decodeStep_of_sample after hs]
  rcases cycle_cases hc with ⟨-, -, rfl⟩ | ⟨-, -, rfl⟩ | ⟨-, -, rfl⟩ | ⟨-, -, rfl⟩ | ⟨-, -, rfl⟩
  · exact run rfl (exec_decodePressure _ _ _ s)
  · exact run rfl (exec_decodeAltitude _ _ _ s)
  · exact run rfl (exec_decodeTemperature _ _ s)
  · exact run rfl (exec_decodePressureTemperature _ _ _ _ _ s)
  · exact run rfl (exec_decodeAltitude _ _ _ s)

/-! ### No state with the invariants is stuck -/

theorem acquisitionOpcode_cases {op : Byte} (h : acquisitionOpcode op = true) :
    op = 0x02#8 ∨ op = 0x03#8 ∨ op = 0x04#8 ∨ op = 0x05#8 := by
  simp only [acquisitionOpcode, Bool.and_eq_true, decide_eq_true_eq] at h
  bv_omega

/-- R162 has a row for every cycle the invariants allow. -/
theorem State.Inv.cycle_some {s : State} (h : s.Inv) (hst : s.st.inCycle = true) : ∃ c, s.cycle = some c := by
  rcases acquisitionOpcode_cases (h.cycle hst).2 with hop | hop | hop | hop
  case inr.inr.inr => cases hph : s.phase <;> exact ⟨_, by simp [State.cycle, cycleOf, hop, hph]; rfl⟩
  all_goals
    have hph : s.phase = false := by
      by_contra hne
      simp [h.phase (by simpa using hne)] at hop
    exact ⟨_, by simp [State.cycle, cycleOf, hop, hph]; rfl⟩

/-- R160: a command word is accepted or waits; either way the block goes on. -/
theorem command_goesOn (s : State) (op : Byte) (f : State → State) : ∃ t, s.command op f = .next t := ⟨_, rfl⟩

theorem blockStep_goesOn_of_idle {s : State} (hst : s.st = .idle) : ∃ t, blockStep s = .next t := by
  cases hp : s.cmdPort with
  | none => exact ⟨s, by simp [blockStep, State.fetch, hst, hp]⟩
  | some w =>
    have hw : s.cmdPort = some (w.extractLsb' 8 8 ++ w.extractLsb' 0 8) := hp.trans (congrArg some (word_eq_bytes w))
    obtain ⟨t, ht⟩ := command_goesOn s (w.extractLsb' 0 8) (State.dispatch (w.extractLsb' 8 8) (w.extractLsb' 0 8))
    refine ⟨t, ?_⟩
    rw [blockStep, fetch_presented hst hw]
    exact (exec_decodeCommand _ _ s).trans ht

/-- R176: what a state with the invariants does next. -/
theorem State.Inv.next_cases {s : State} (h : s.Inv) :
    s.st = .idle ∨ (∃ x, s.request = some x) ∨ s.st = .decoded ∧ ∃ c, s.cycle = some c := by
  cases hst : s.st with
  | idle => exact .inl rfl
  | single =>
    rcases h.single hst with hop | hop
    · exact .inr (.inl ⟨_, request_identity hst hop⟩)
    · exact .inr (.inl ⟨_, request_standby hst hop⟩)
  | configWritten =>
    cases hsub : s.sub with
    | false => exact .inr (.inl ⟨_, request_ptcfg hst hsub⟩)
    | true =>
      obtain ⟨c, hc⟩ := h.cycle_some (by rw [hst]; rfl)
      exact .inr (.inl ⟨_, request_ctrl hst hsub hc⟩)
  | polling => exact .inr (.inl ⟨_, request_status hst⟩)
  | dataReady =>
    obtain ⟨c, hc⟩ := h.cycle_some (by rw [hst]; rfl)
    exact .inr (.inl ⟨_, request_burst hst hc⟩)
  | decoded => exact .inr (.inr ⟨rfl, h.cycle_some (by rw [hst]; rfl)⟩)

theorem State.Inv.blockStep_goesOn {s : State} (h : s.Inv) : ∃ t, blockStep s = .next t := by
  rcases h.next_cases with hst | ⟨x, hx⟩ | ⟨hst, c, hc⟩
  · exact blockStep_goesOn_of_idle hst
  · obtain ⟨i, hi⟩ := blockStep_transaction hx
    exact ⟨_, hi⟩
  · exact ⟨_, blockStep_decoded hst hc⟩

/-- Settles O32: a reset always has its step; otherwise the sequencer's state says what is next, and the invariants give
R162 a row where it needs one. -/
theorem everyStepGoesOn : Obligations.EveryStepGoesOn := by
  intro s hi
  obtain ⟨port, hu⟩ := hostTurn_fst s
  obtain ⟨t, ht⟩ := (hi.of_host port s.host.tail).blockStep_goesOn
  cases hr : s.hostTurn.2 with
  | true => exact ⟨s.hostTurn.1.resetStep, by simp [step, hr]⟩
  | false => exact ⟨t, by simp [step, hr, hu, ht]⟩

end Sys2Proof.Machine
end

section
/-! Rules of every step, each one case split over its effects: the bus (20_memory R56, R69), the registers only certain steps
write (10_state R22, R23, R32), and the errors (60_exceptions R200 to R207). -/

namespace Sys2Proof.Machine

/-! ### The bus -/

theorem effect_trace {s t : State} (h : Effect s t) :
    t.trace = s.trace ∨ ∃ x r, s.request = some x ∧ t.trace = s.trace ++ [.answered x r] := by
  cases h with
  | rest | illegal | unconstructed | construct | acquire | standby | wait | hold | deliver => exact .inl rfl
  | failed x r rest e cause info hr hf => exact .inr ⟨x, r, hr, rfl⟩
  | identified rest hst hop => exact .inr ⟨_, _, request_identity hst hop, rfl⟩
  | standbyDone rest hst hop => exact .inr ⟨_, _, request_standby hst hop, rfl⟩
  | setUp rest hst hsub => exact .inr ⟨_, _, request_ptcfg hst hsub, rfl⟩
  | configured c rest hst hsub hc => exact .inr ⟨_, _, request_ctrl hst hsub hc, rfl⟩
  | ready b rest hst => exact .inr ⟨_, _, request_status hst, rfl⟩
  | again b rest hst => exact .inr ⟨_, _, request_status hst, rfl⟩
  | loaded c bytes rest hst hc => exact .inr ⟨_, _, request_burst hst hc, rfl⟩

/-- Settles O35: the trace grows by the sequencer's own transaction (`effect_trace`), or by reset's mark. -/
theorem oneTransactionAStep : Obligations.OneTransactionAStep := by
  intro s t h
  obtain ⟨port, -, ⟨hr, rfl⟩ | ⟨hr, he⟩⟩ := step_effect h
  · refine ⟨by simp [hr], fun _ => congrArg (s.trace ++ ·) ?_⟩
    cases s.outstanding <;> simp [abandon]
  · have grows := effect_trace he
    exact ⟨fun _ => grows, by simp [hr]⟩

theorem busInv_of_outstanding_none {t : State} (h : t.outstanding = none) : t.BusInv := by
  simp [State.BusInv, h]

/-- A state that issues nothing has nothing outstanding. -/
theorem State.BusInv.outstanding_none {s : State} (h : s.BusInv) (hr : s.request = none) : s.outstanding = none := by
  by_contra hne
  obtain ⟨x, hx⟩ := Option.ne_none_iff_exists'.1 hne
  simp [h x hx] at hr

theorem effect_busInv {s t : State} (hi : s.BusInv) (h : Effect s t) : t.BusInv := by
  have quiet (hst : s.st = .idle ∨ s.st = .decoded) : s.outstanding = none :=
    hi.outstanding_none (hst.elim request_idle request_decoded)
  cases h with
  | rest hst => exact hi
  | wait x rest hr =>
    intro y hy
    obtain rfl : x = y := by simpa using hy
    exact hr
  | illegal a op hst => exact busInv_of_outstanding_none (quiet (.inl hst))
  | unconstructed a op hst => exact busInv_of_outstanding_none (quiet (.inl hst))
  | construct a hst => exact busInv_of_outstanding_none (quiet (.inl hst))
  | acquire a op hst => exact busInv_of_outstanding_none (quiet (.inl hst))
  | standby a hst => exact busInv_of_outstanding_none (quiet (.inl hst))
  | hold p t hst => exact busInv_of_outstanding_none (quiet (.inr hst))
  | deliver k x0 x1 x2 n hst => exact busInv_of_outstanding_none (quiet (.inr hst))
  | failed | identified | standbyDone | setUp | configured | ready | again | loaded =>
    exact busInv_of_outstanding_none rfl

/-- R84: what the sequencer issues is a listed transaction. -/
theorem request_listed {s : State} {x : Txn} (h : s.request = some x) : x.listed = true := by
  obtain ⟨i, hp⟩ := row_of_request h
  exact row_listed hp

theorem TraceInv_append {s t : State} {e : Exchange} (h : s.TraceInv) (ht : t.trace = s.trace ++ [e])
    (he : e.txn.listed = true) : t.TraceInv := by
  intro e' hm
  rw [ht, List.mem_append, List.mem_singleton] at hm
  rcases hm with hm | rfl
  · exact h e' hm
  · exact he

theorem effect_traceInv {s t : State} (hi : s.TraceInv) (h : Effect s t) : t.TraceInv := by
  rcases effect_trace h with ht | ⟨x, r, hx, ht⟩
  · intro e hm
    exact hi e (ht ▸ hm)
  · exact TraceInv_append hi ht (request_listed hx)

/-- Reset cuts off the sequencer's own transaction, so its mark in the trace is listed too. -/
theorem resetStep_traceInv {s : State} (hb : s.BusInv) (hi : s.TraceInv) : s.resetStep.TraceInv := by
  cases hx : s.outstanding with
  | none =>
    intro e hm
    exact hi e (by simpa [abandon, hx] using hm)
  | some x => exact TraceInv_append (e := .abandoned x) hi (by simp [abandon, hx]) (request_listed (hb x hx))

/-- Settles O34: an effect leaves the waiting transaction or none outstanding, and reset none. -/
theorem stepKeepsTheBusDiscipline : Obligations.StepKeepsTheBusDiscipline := by
  intro s t hi h
  obtain ⟨port, -, ⟨-, rfl⟩ | ⟨-, he⟩⟩ := step_effect h
  · refine ⟨busInv_of_outstanding_none rfl, fun ht => resetStep_traceInv ?_ ht⟩
    exact hi
  · refine ⟨effect_busInv ?_ he, fun ht => effect_traceInv ?_ he⟩
    · exact hi
    · exact ht

/-! ### Registers that only certain steps write -/

theorem effect_devAddr {s t : State} (h : Effect s t) (hne : t.devAddr ≠ s.devAddr) :
    s.st = .idle ∧ s.busy = false ∧ t.opc = 0x01#8 ∧ t.st = .single ∧ t.identOk = false ∧
      s.cmdPort = some (t.devAddr ++ 0x01#8) := by
  cases h with
  | construct a hst hb hp => exact ⟨hst, hb, rfl, rfl, rfl, hp⟩
  | rest | illegal | unconstructed | acquire | standby | wait | failed | identified | standbyDone | setUp | configured
  | ready | again | loaded | hold | deliver => exact absurd rfl hne

/-- Settles O36. -/
theorem onlyConstructWritesDevAddr : Obligations.OnlyConstructWritesDevAddr := by
  intro s t h hne
  obtain ⟨port, hu, ⟨hr, -⟩ | ⟨-, he⟩⟩ := step_effect h
  · exact .inl hr
  · rw [hu]
    exact .inr (effect_devAddr he hne)

theorem effect_identOk_rises {s t : State} (h : Effect s t) (hs : s.identOk = false) (ht : t.identOk = true) :
    s.st = .single ∧ s.opc = 0x01#8 ∧
      t.trace = s.trace ++ [.answered (.rd s.devAddr 0x0C#8 1#8) (.ok [0xC4#8])] ∧ t.errKind = s.errKind := by
  cases h with
  | identified rest hst hop => exact ⟨hst, hop, rfl, rfl⟩
  | construct => cases ht
  | rest | illegal | unconstructed | acquire | standby | wait | failed | standbyDone | setUp | configured | ready | again
  | loaded | hold | deliver => cases hs.symm.trans ht

theorem effect_identOk_falls {s t : State} (h : Effect s t) (hs : s.identOk = true) (ht : t.identOk = false) :
    s.st = .idle ∧ t.opc = 0x01#8 ∧ t.st = .single := by
  cases h with
  | construct a hst => exact ⟨hst, rfl, rfl⟩
  | identified => cases ht
  | rest | illegal | unconstructed | acquire | standby | wait | failed | standbyDone | setUp | configured | ready | again
  | loaded | hold | deliver => cases hs.symm.trans ht

/-- Settles O37: reset only lowers IDENT_OK. -/
theorem identOkFollowsTheIdentityRead : Obligations.IdentOkFollowsTheIdentityRead := by
  intro s t h
  obtain ⟨port, -, ⟨hr, rfl⟩ | ⟨-, he⟩⟩ := step_effect h
  · exact ⟨fun _ ht => Bool.noConfusion ht, fun _ _ => .inl hr⟩
  · have rises := effect_identOk_rises he
    have falls := effect_identOk_falls he
    exact ⟨rises, fun hs ht => .inr (falls hs ht)⟩

theorem effect_enters_dataReady {s t : State} (h : Effect s t) (ht : t.st = .dataReady) (hs : s.st ≠ .dataReady) :
    s.st = .polling ∧ ∃ b, b &&& 0x08#8 ≠ 0#8 ∧
      t.trace = s.trace ++ [.answered (.rd s.devAddr 0x00#8 1#8) (.ok [b])] := by
  cases h with
  | ready b rest hst hb => exact ⟨hst, b, (rdy_eq_true_iff b).1 hb, rfl⟩
  | rest | wait | setUp | again => exact absurd ht hs
  | illegal | unconstructed | construct | acquire | standby | failed | identified | standbyDone | configured | loaded | hold
  | deliver => cases ht

theorem effect_enters_polling {s t : State} (h : Effect s t) (ht : t.st = .polling) (hs : s.st ≠ .polling) :
    s.st = .configWritten ∧ s.sub = true ∧ t.pollCnt = 0 ∧
      ∃ c, s.cycle = some c ∧ t.trace = s.trace ++ [.answered (.wr s.devAddr 0x26#8 c.ctrlPat) (.ok [])] := by
  cases h with
  | configured c rest hst hsub hc => exact ⟨hst, hsub, rfl, c, hc, rfl⟩
  | rest | wait | setUp | again => exact absurd ht hs
  | illegal | unconstructed | construct | acquire | standby | failed | identified | standbyDone | ready | loaded | hold
  | deliver => cases ht

/-- Settles O38: reset enters neither state. -/
theorem burstComesOnlyAfterReady : Obligations.BurstComesOnlyAfterReady := by
  intro s t h
  obtain ⟨port, -, ⟨-, rfl⟩ | ⟨-, he⟩⟩ := step_effect h
  · exact ⟨fun ht => SeqState.noConfusion ht, fun ht => SeqState.noConfusion ht⟩
  · have ready := effect_enters_dataReady he
    have polling := effect_enters_polling he
    exact ⟨ready, polling⟩

theorem effect_result {s t : State} (h : Effect s t) (hs : s.resKind = .none) (ht : t.resKind ≠ .none) :
    s.st = .decoded ∧ t.st = .idle ∧ t.done = true ∧ t.trace = s.trace ∧ s.delivers t.resKind := by
  cases h with
  | deliver k x0 x1 x2 n hst hk => exact ⟨hst, rfl, rfl, rfl, hk⟩
  | illegal | unconstructed | construct | acquire | standby | failed => exact absurd rfl ht
  | rest | wait | identified | standbyDone | setUp | configured | ready | again | loaded | hold => exact absurd hs ht

/-- Settles O39: `State.delivers` names the record of each opcode. -/
theorem resultsComeFromTheFinalDecodedStep : Obligations.ResultsComeFromTheFinalDecodedStep := by
  intro s t h hs ht
  obtain ⟨port, -, ⟨-, rfl⟩ | ⟨-, he⟩⟩ := step_effect h
  · exact absurd rfl ht
  · have result := effect_result he
    exact result hs ht

/-! ### Outcome and error -/

/-- An idle block does nothing or accepts the word on its port. -/
theorem effect_of_idle {s t : State} (h : Effect s t) (hst : s.st = .idle) :
    t = s ∨ ∃ a op : Byte, s.cmdPort = some (a ++ op) ∧ t.opc = op ∧ t.resKind = .none := by
  cases h with
  | rest => exact .inl rfl
  | illegal a op _ _ hp => exact .inr ⟨a, op, hp, rfl, rfl⟩
  | unconstructed a op _ _ hp => exact .inr ⟨a, op, hp, rfl, rfl⟩
  | construct a _ _ hp => exact .inr ⟨a, _, hp, rfl, rfl⟩
  | acquire a op _ _ hp => exact .inr ⟨a, op, hp, rfl, rfl⟩
  | standby a _ _ hp => exact .inr ⟨a, _, hp, rfl, rfl⟩
  | wait x rest hr => simp [request_idle hst] at hr
  | failed x r rest e cause info hr => simp [request_idle hst] at hr
  | identified _ hs | standbyDone _ hs | setUp _ hs | configured _ _ hs | ready _ _ hs | again _ _ hs | loaded _ _ _ hs
  | hold _ _ hs | deliver _ _ _ _ _ hs => cases hst.symm.trans hs

/-- Settles O40. -/
theorem outcomeLastsUntilTheNextCommand : Obligations.OutcomeLastsUntilTheNextCommand := by
  intro s t _ hst h
  obtain ⟨port, hu, ⟨hr, -⟩ | ⟨hr, he⟩⟩ := step_effect h
  · exact .inr (.inr hr)
  rcases effect_of_idle he hst with rfl | hacc
  · exact .inl ⟨rfl, rfl, rfl, rfl, rfl, rfl, rfl, rfl⟩
  · rw [hu]
    exact .inr (.inl ⟨hr, hacc⟩)

end Sys2Proof.Machine
end

section
/-! The errors a step records (60_exceptions R200 to R207), a command in progress beside its port (42_operations R160), and
what the host reads (10_state R38). -/

namespace Sys2Proof.Machine

/-! ### Each error is its own step's -/

/-- 60_exceptions R201 to R203: the error of a failed transaction, by its kind. -/
theorem failure_identityMismatch {s : State} {x : Txn} {r : Reply} {cause : Bool} {info : Byte}
    (h : Failure s x r .identityMismatch cause info) :
    s.st = .single ∧ s.opc = 0x01#8 ∧ x = .rd s.devAddr 0x0C#8 1#8 ∧
      (cause = true ∧ info = 0#8 ∧ r = .busError ∨ cause = false ∧ info ≠ 0xC4#8 ∧ r = .ok [info]) := by
  cases h with
  | wrongDevice b hst hop hb => exact ⟨hst, hop, rfl, .inr ⟨rfl, hb, rfl⟩⟩
  | noIdentity hst hop => exact ⟨hst, hop, rfl, .inl ⟨rfl, rfl, rfl⟩⟩

theorem failure_busError {s : State} {x : Txn} {r : Reply} {cause : Bool} {info : Byte}
    (h : Failure s x r .busError cause info) : cause = false ∧ r = .busError ∧
      (x = .wr s.devAddr 0x13#8 0x07#8 ∧ info = 0x13#8 ∨ (∃ v, x = .wr s.devAddr 0x26#8 v) ∧ info = 0x26#8 ∨
        ∃ reg n, x = .rd s.devAddr reg n ∧ info = reg) := by
  cases h with
  | ptcfg => exact ⟨rfl, rfl, .inl ⟨rfl, rfl⟩⟩
  | ctrl v => exact ⟨rfl, rfl, .inr (.inl ⟨⟨v, rfl⟩, rfl⟩)⟩
  | read _ n => exact ⟨rfl, rfl, .inr (.inr ⟨_, n, rfl, rfl⟩)⟩

theorem failure_timeout {s : State} {x : Txn} {r : Reply} {cause : Bool} {info : Byte}
    (h : Failure s x r .acquisitionTimeout cause info) : s.st = .polling ∧ cause = false ∧ info &&& 0x08#8 = 0#8 ∧
      budgetSpent Config.pollMax s.pollCnt = true ∧ x = .rd s.devAddr 0x00#8 1#8 ∧ r = .ok [info] := by
  cases h with
  | timeout _ hst hb hs => exact ⟨hst, rfl, (rdy_eq_false_iff _).1 hb, hs, rfl, rfl⟩

/-- R204, R205: the dispatch errors are no transaction's. -/
theorem failure_kind {s : State} {x : Txn} {r : Reply} {e : ErrKind} {cause : Bool} {info : Byte}
    (h : Failure s x r e cause info) : e ≠ .illegalCommand ∧ e ≠ .notConstructed := by
  cases h <;> exact ⟨nofun, nofun⟩

/-- 60_exceptions R206, R207: what stands after the step that detected an error: the command is over without a result, and
the error's cause and detail are those of its kind, from the state `s` and the transaction that ends the trace. -/
def DetectedIn (s t : State) : Prop :=
  t.st = .idle ∧ t.busy = false ∧ t.done = true ∧ t.resKind = .none ∧ t.identOk = s.identOk ∧ t.devAddr = s.devAddr ∧
  (t.errKind = .identityMismatch → s.st = .single ∧ s.opc = 0x01#8 ∧ t.identOk = false ∧
    (t.errCause = true ∧ t.errInfo = 0#8 ∧
        t.trace = s.trace ++ [.answered (.rd s.devAddr 0x0C#8 1#8) .busError] ∨
      t.errCause = false ∧ t.errInfo ≠ 0xC4#8 ∧
        t.trace = s.trace ++ [.answered (.rd s.devAddr 0x0C#8 1#8) (.ok [t.errInfo])])) ∧
  (t.errKind = .busError → t.errCause = false ∧
    ∃ x, s.request = some x ∧ t.trace = s.trace ++ [.answered x .busError] ∧
      (x = .wr s.devAddr 0x13#8 0x07#8 ∧ t.errInfo = 0x13#8 ∨ (∃ v, x = .wr s.devAddr 0x26#8 v) ∧ t.errInfo = 0x26#8 ∨
        ∃ reg n, x = .rd s.devAddr reg n ∧ t.errInfo = reg)) ∧
  (t.errKind = .acquisitionTimeout → s.st = .polling ∧ t.errCause = false ∧ t.errInfo &&& 0x08#8 = 0#8 ∧
    budgetSpent Config.pollMax s.pollCnt = true ∧
    t.trace = s.trace ++ [.answered (.rd s.devAddr 0x00#8 1#8) (.ok [t.errInfo])]) ∧
  (t.errKind = .illegalCommand → s.st = .idle ∧ t.errCause = false ∧ namedOpcode t.errInfo = false ∧
    (∃ a : Byte, s.cmdPort = some (a ++ t.errInfo)) ∧ t.trace = s.trace) ∧
  (t.errKind = .notConstructed → s.st = .idle ∧ t.errCause = false ∧ t.identOk = false ∧ namedOpcode t.errInfo = true ∧
    t.errInfo ≠ 0x01#8 ∧ (∃ a : Byte, s.cmdPort = some (a ++ t.errInfo)) ∧ t.trace = s.trace)

/-- A failed transaction's step is detected as its kind of failure says. -/
theorem detected_of_failure {s t : State} {x : Txn} {r : Reply} (hi : s.Inv) (hr : s.request = some x)
    (hf : Failure s x r t.errKind t.errCause t.errInfo) (hst : t.st = .idle) (hb : t.busy = false) (hd : t.done = true)
    (hres : t.resKind = .none) (hid : t.identOk = s.identOk) (hdev : t.devAddr = s.devAddr)
    (htr : t.trace = s.trace ++ [.answered x r]) : DetectedIn s t := by
  refine ⟨hst, hb, hd, hres, hid, hdev, ?mismatch, ?bus, ?timeout, ?illegal, ?unconstructed⟩
  case mismatch =>
    intro he
    obtain ⟨hsingle, hop, rfl, hcase⟩ := failure_identityMismatch (he ▸ hf)
    refine ⟨hsingle, hop, hid.trans (hi.construct hsingle hop), ?_⟩
    obtain ⟨hc, hinfo, rfl⟩ | ⟨hc, hinfo, rfl⟩ := hcase
    · exact .inl ⟨hc, hinfo, htr⟩
    · exact .inr ⟨hc, hinfo, htr⟩
  case bus =>
    intro he
    obtain ⟨hc, rfl, hx⟩ := failure_busError (he ▸ hf)
    exact ⟨hc, x, hr, htr, hx⟩
  case timeout =>
    intro he
    obtain ⟨hpoll, hc, hbit, hs, rfl, rfl⟩ := failure_timeout (he ▸ hf)
    exact ⟨hpoll, hc, hbit, hs, htr⟩
  case illegal => exact fun he => absurd he (failure_kind hf).1
  case unconstructed => exact fun he => absurd he (failure_kind hf).2

/-- An effect that records no error of its own: from a running command there is none after it. -/
theorem State.Inv.no_error {s t : State} (hi : s.Inv) (hst : s.st ≠ .idle) (he : t.errKind = s.errKind) :
    t.errKind = .none := by
  obtain ⟨-, -, -, hn⟩ := hi.running hst
  exact he.trans hn

theorem effect_error {s t : State} (hi : s.Inv) (h : Effect s t) (hne : t.errKind ≠ .none) :
    (s.st = .idle ∧ t = s) ∨ DetectedIn s t := by
  have kept (hst : s.st ≠ .idle) (he : t.errKind = s.errKind) : DetectedIn s t := absurd (hi.no_error hst he) hne
  cases h with
  | rest hst => exact .inl ⟨hst, rfl⟩
  | illegal a op hst hb hp hop =>
    exact .inr ⟨rfl, rfl, rfl, rfl, rfl, rfl, nofun, nofun, nofun, fun _ => ⟨hst, rfl, hop, ⟨a, hp⟩, rfl⟩, nofun⟩
  | unconstructed a op hst hb hp hop h1 hid =>
    exact .inr ⟨rfl, rfl, rfl, rfl, rfl, rfl, nofun, nofun, nofun, nofun,
      fun _ => ⟨hst, rfl, hid, hop, h1, ⟨a, hp⟩, rfl⟩⟩
  | construct | acquire | standby => exact absurd rfl hne
  | failed x r rest e cause info hr hf => exact .inr (detected_of_failure hi hr hf rfl rfl rfl rfl rfl rfl rfl)
  | wait x rest hr => exact .inr (kept (fun hst => by simp [request_idle hst] at hr) rfl)
  | identified rest hst | standbyDone rest hst | setUp rest hst | configured _ rest hst | ready _ rest hst
  | again _ rest hst | loaded _ _ rest hst | hold _ _ hst | deliver _ _ _ _ _ hst =>
    exact .inr (kept (by simp [hst]) rfl)

/-- Settles O41: an error after a step is an idle block's old one, or the failing step's own (`DetectedIn`). -/
theorem errorsComeFromTheirSteps : Obligations.ErrorsComeFromTheirSteps := by
  intro s t hi h hne
  obtain ⟨port, hu, ⟨-, rfl⟩ | ⟨-, he⟩⟩ := step_effect h
  · exact absurd rfl hne
  · rw [hu]
    have errs := effect_error (hi.of_host port s.host.tail) he hne
    exact errs

/-! ### A command in progress does not see its port (42_operations R160) -/

/-- The state with another command port. -/
def State.onPort (s : State) (port : Option CommandWord) : State := { s with cmdPort := port }

theorem onIdentity_onPort (s : State) (port : Option CommandWord) (b : Byte) :
    (s.onPort port).onIdentity b = (s.onIdentity b).onPort port := by
  unfold State.onIdentity
  split <;> rfl

theorem onStatus_onPort (bound : PollBound) (s : State) (port : Option CommandWord) (b : Byte) :
    (s.onPort port).onStatus bound b = (s.onStatus bound b).onPort port := by
  cases hb : rdy b with
  | true => rw [onStatus_ready bound _ hb, onStatus_ready bound _ hb]; rfl
  | false =>
    cases hs : budgetSpent bound s.pollCnt with
    | true => rw [onStatus_spent s hb hs, onStatus_spent (s.onPort port) hb hs]; rfl
    | false => rw [onStatus_again s hb hs, onStatus_again (s.onPort port) hb hs]; rfl

/-- No transaction's updates read or write the port. -/
theorem rowUpdate_onPort (i : Instr) (r : Reply) (s : State) (port : Option CommandWord) :
    rowUpdate i r (s.onPort port) = (rowUpdate i r s).onPort port := by
  have identity : State.afterIdentity r (s.onPort port) = (State.afterIdentity r s).onPort port := by
    unfold State.afterIdentity
    cases r.byte with
    | none => rfl
    | some b => exact onIdentity_onPort s port b
  have status : State.afterStatus Config.pollMax r (s.onPort port) =
      (State.afterStatus Config.pollMax r s).onPort port := by
    unfold State.afterStatus
    cases r.byte with
    | none => rfl
    | some b => exact onStatus_onPort _ s port b
  cases i
  case rdWhoami => exact identity
  case rdStatus => exact status
  all_goals cases r <;> rfl

theorem exchange_onPort (i : Instr) (s : State) (port : Option CommandWord) (x : Txn) :
    (s.onPort port).exchange x (rowUpdate i) = (s.exchange x (rowUpdate i)).onPort port := by
  match ha : s.answers with
  | [] => rw [exchange_nil ha, exchange_nil (s := s.onPort port) ha]; rfl
  | .silent :: rest => rw [exchange_silent ha, exchange_silent (s := s.onPort port) ha]; rfl
  | .busError :: rest =>
    rw [exchange_busError ha, exchange_busError (s := s.onPort port) ha]
    exact rowUpdate_onPort i _ (s.answered x _ rest) port
  | .ok bytes :: rest =>
    rw [exchange_ok ha, exchange_ok (s := s.onPort port) ha]
    exact rowUpdate_onPort i _ (s.answered x _ rest) port

theorem runSample_onPort (s : State) (p : Place) (port : Option CommandWord) :
    (s.onPort port).runSample p = (s.runSample p).onPort port := by
  cases p
  case altitude =>
    unfold State.runSample
    by_cases h : s.opc = 0x05#8
    · rw [if_pos h, if_pos (show (s.onPort port).opc = 0x05#8 from h)]; rfl
    · rw [if_neg h, if_neg (show ¬ (s.onPort port).opc = 0x05#8 from h)]; rfl
  all_goals rfl

/-- The block's step in the middle of a command is the same with any port. -/
theorem blockStep_onPort {s t : State} (hi : s.Inv) (hst : s.st ≠ .idle) (h : blockStep s = .next t)
    (port : Option CommandWord) : blockStep (s.onPort port) = .next (t.onPort port) := by
  rcases hi.next_cases with hidle | ⟨x, hx⟩ | ⟨hdec, c, hc⟩
  · exact absurd hidle hst
  · obtain ⟨i, hp⟩ := row_of_request hx
    have step_row (u : State) (hu : u.request = some x) (hd : u.devAddr = s.devAddr) :
        blockStep u = .next (u.exchange x (rowUpdate i)) :=
      (blockStep_of_request hu (hd ▸ hp)).trans ((exec_transactionRow hp u).trans (transact_of_request _ hu))
    obtain rfl : s.exchange x (rowUpdate i) = t := by simpa [step_row s hx rfl] using h
    rw [step_row (s.onPort port) hx rfl, exchange_onPort]
  · obtain rfl : s.runSample c.layout = t := by simpa [blockStep_decoded hdec hc] using h
    rw [blockStep_decoded (s := s.onPort port) hdec hc, runSample_onPort]

/-- The host acts alike whatever stands on the port before. -/
theorem hostTurn_onPort (s : State) (port : Option CommandWord) :
    ∃ port', (s.onPort port).hostTurn = (s.hostTurn.1.onPort port', s.hostTurn.2) := by
  match hh : s.host with
  | [] => exact ⟨port, by simp [State.hostTurn, State.onPort, hh]⟩
  | .rest :: later => exact ⟨port, by simp [State.hostTurn, State.onPort, hh]⟩
  | .present cw :: later => exact ⟨some cw, by simp [State.hostTurn, State.onPort, hh]⟩
  | .withdraw :: later => exact ⟨none, by simp [State.hostTurn, State.onPort, hh]⟩
  | .reset :: later => exact ⟨port, by simp [State.hostTurn, State.onPort, hh]⟩

theorem step_onPort {s t : State} (hi : s.Inv) (hst : s.st ≠ .idle) (h : step s = .next t)
    (port : Option CommandWord) : ∃ port', step (s.onPort port) = .next (t.onPort port') := by
  obtain ⟨port', hturn⟩ := hostTurn_onPort s port
  refine ⟨port', ?_⟩
  unfold step at h ⊢
  rw [hturn]
  cases hr : s.hostTurn.2 with
  | true =>
    obtain rfl : s.hostTurn.1.resetStep = t := by simpa [hr] using h
    rfl
  | false =>
    have hb : blockStep s.hostTurn.1 = .next t := by simpa [hr] using h
    obtain ⟨q, hq⟩ := hostTurn_fst s
    have hiu : s.hostTurn.1.Inv := hq ▸ hi.of_host q s.host.tail
    have hsu : s.hostTurn.1.st ≠ .idle := by simpa [hq] using hst
    exact blockStep_onPort hiu hsu hb port'

/-- A running command leaves the port, its opcode and its device alone. -/
theorem effect_of_running {s t : State} (h : Effect s t) (hst : s.st ≠ .idle) :
    t.cmdPort = s.cmdPort ∧ t.opc = s.opc ∧ t.devAddr = s.devAddr := by
  cases h with
  | rest hs | illegal _ _ hs | unconstructed _ _ hs | construct _ hs | acquire _ _ hs | standby _ hs => exact absurd hs hst
  | wait | failed | identified | standbyDone | setUp | configured | ready | again | loaded | hold | deliver =>
    exact ⟨rfl, rfl, rfl⟩

/-- Settles O42: the moves of a running command commute with a change of its port (`blockStep_onPort`), and the host's act
of presenting or withdrawing a word is such a change. -/
theorem commandInProgressIsNotDisturbed : Obligations.CommandInProgressIsNotDisturbed := by
  intro s hi hbusy
  have hst : s.st ≠ .idle := hi.busy_iff.1 hbusy
  refine ⟨?kept, fun port t h => step_onPort hi hst h port, ?host⟩
  case kept =>
    intro t hr h
    obtain ⟨port, hu, ⟨hr', -⟩ | ⟨-, he⟩⟩ := step_effect h
    · simp [hr] at hr'
    · rw [hu]
      have running := effect_of_running he hst
      exact running
  case host =>
    intro cw later t h
    have hb : blockStep { s with host := later } = .next t := by simpa [step, State.hostTurn] using h
    have acts (port : Option CommandWord) :
        blockStep { s with host := later, cmdPort := port } = .next { t with cmdPort := port } :=
      blockStep_onPort (hi.of_host s.cmdPort later) hst hb port
    exact ⟨by simpa [step, State.hostTurn] using acts (some cw), by simpa [step, State.hostTurn] using acts none⟩

/-! ### What the host reads -/

theorem lastOutcome_of_running {s : State} (h : s.done = false) : s.lastOutcome = none := by
  simp [State.lastOutcome, h]

theorem lastOutcome_error {s : State} (hd : s.done = true) (he : s.errKind ≠ .none) :
    s.lastOutcome = some (.error s.errKind s.errCause s.errInfo) := by
  simp [State.lastOutcome, hd, he]

theorem lastOutcome_record {s : State} (hd : s.done = true) (he : s.errKind = .none) :
    s.lastOutcome = some s.record := by
  simp [State.lastOutcome, hd, he]

/-- R41 (c): a record is read without an error beside it. -/
theorem State.Inv.lastOutcome_of_result {s : State} (hi : s.Inv) (hr : s.resKind ≠ .none) :
    s.lastOutcome = some s.record :=
  lastOutcome_record (hi.result hr).1 (hi.result hr).2

/-- R32: the slots a record specifies, as the host reads them. -/
theorem hostRead_slots {s : State} (hr : s.resKind ≠ .none) :
    s.hostRead .v0 = .num s.v0 ∧ s.hostRead .v1 = .num s.v1 ∧
      s.hostRead .v2 = (if s.resKind = .altitude then .unspecified else .num s.v2) := by
  cases hk : s.resKind with
  | none => exact absurd hk hr
  | pressure | altitude | temp | slp => simp [State.hostRead, slotValue, slotsOf, hk]

/-- Settles O43: the registers read as they stand; by R41 an outcome stands only from DONE on, and is one of three. -/
theorem hostReadsShowTheOutcome : Obligations.HostReadsShowTheOutcome := by
  refine ⟨⟨rfl, rfl, rfl, rfl, rfl, rfl⟩, fun s hi => ?_⟩
  refine ⟨⟨rfl, rfl, rfl, rfl, rfl, rfl, rfl, rfl, rfl⟩, ?busy, lastOutcome_of_running, ?noRecord, ?record, ?pressure,
    ?altitude, ?temp, ?slp, ?error, ?nothing⟩
  case busy =>
    intro hb
    obtain ⟨-, hd, hr, he⟩ := hi.running (hi.busy_iff.1 hb)
    exact ⟨congrArg _ hr, congrArg (fun k => HostValue.err (ErrKind.code k)) he, congrArg _ hd, lastOutcome_of_running hd⟩
  case noRecord =>
    intro hr
    simp [State.hostRead, slotValue, slotsOf, hr]
  case record =>
    intro hr
    obtain ⟨hd, he⟩ := hi.result hr
    exact ⟨congrArg (fun k => HostValue.err (ErrKind.code k)) he, congrArg _ hd, hostRead_slots hr⟩
  case pressure | altitude | temp | slp =>
    intro hk
    rw [hi.lastOutcome_of_result (by simp [hk])]
    simp [State.record, hk]
  case error => exact fun he => lastOutcome_error (hi.error he).1 he
  case nothing =>
    intro hd he hr
    rw [lastOutcome_record hd he]
    simp [State.record, hr]

/-! ### Reset and the host's turn -/

/-- Settles O31. -/
theorem resetHasTheInvariants : Obligations.ResetHasTheInvariants := by
  refine ⟨?inv, ⟨rfl, rfl, rfl, rfl, rfl⟩, busInv_of_outstanding_none rfl, ?trace, rfl, rfl, rfl, rfl, rfl, rfl, rfl, rfl,
    rfl, rfl, rfl, rfl, rfl⟩
  case inv => constructor <;> simp [State.reset, SeqState.inCycle]
  case trace => simp [State.TraceInv, State.reset]

/-- Settles O25: the host's act is used up and the block takes its reset values, by the rules of `State.resetStep`. -/
theorem resetTakesOneStep : Obligations.ResetTakesOneStep := by
  intro s later hh
  refine ⟨State.resetStep { s with host := later }, by simp [step, State.hostTurn, hh], rfl, rfl, rfl, rfl, rfl, rfl, rfl, rfl,
    rfl, rfl, rfl, rfl, rfl, rfl, rfl, congrArg (s.trace ++ ·) ?_⟩
  cases s.outstanding <;> rfl

/-- Settles O23: the host's turn by its first act; then the fetched word, decoded in its place. -/
theorem stepRunsTheDecodedInstruction : Obligations.StepRunsTheDecodedInstruction := by
  intro s
  refine ⟨?none, ?rest, ?present, ?withdraw, ?reset, ?resetStep, ?nothing, ?word⟩
  case none | rest | present | withdraw | reset => intros; simp [State.hostTurn, *]
  case resetStep => exact fun hr => if_pos hr
  case nothing =>
    intro hr hf
    simp [step, hr, blockStep, hf]
  case word =>
    intro p bytes i hr hf hd
    simp [step, hr, blockStep, hf, hd]

end Sys2Proof.Machine
end

section
/-! The rows one by one (42_operations R160 to R175): accepting a command, each transaction with each of its answers, the byte
patterns, and the four samples, with everything they leave unchanged. -/

namespace Sys2Proof.Machine

/-! ### Accepting a command (R160, R161, R170 to R175) -/

theorem exec_construct (a : Byte) (s : State) :
    exec (.construct a) s = s.command 0x01#8 (State.dispatch a 0x01#8) :=
  exec_decodeCommand a 0x01#8 s

/-- Settles O1: `accept`, then dispatch case 2. -/
theorem constructIsAccepted : Obligations.ConstructIsAccepted :=
  fun a s hb => ⟨_, _, _, _, (exec_construct a s).trans (command_idle 0x01#8 _ hb)⟩

/-- R171 to R174: the four commands are one accepting step, told apart by their opcode. -/
theorem exec_acquisitionCommand {a : Byte} {p : Instr × Byte} (hp : p ∈ acquisitionCommands a) (s : State) :
    exec p.1 s = s.command p.2 fun t => t.beginIn .configWritten := by
  simp only [acquisitionCommands, List.mem_cons, List.not_mem_nil, or_false] at hp
  obtain rfl | rfl | rfl | rfl := hp <;> rfl

/-- R160, R161 cases 4 and 5: a constructed idle block accepts and begins. -/
theorem command_begins {s : State} (op : Byte) (target : SeqState) (hb : s.busy = false) (hid : s.identOk = true) :
    (s.command op fun t => t.beginIn target) = .next { s.accept op with busy := true, st := target } :=
  (command_idle op _ hb).trans (congrArg _ (beginIn_constructed (t := s.accept op) target hid))

/-- Settles O2. -/
theorem acquisitionsAreAccepted : Obligations.AcquisitionsAreAccepted :=
  fun _ s hb hid p hp => ⟨_, _, _, _, (exec_acquisitionCommand hp s).trans (command_begins p.2 .configWritten hb hid)⟩

/-- Settles O3. -/
theorem standbyIsAccepted : Obligations.StandbyIsAccepted :=
  fun _ _ hb hid => ⟨_, _, _, _, command_begins 0x06#8 .single hb hid⟩

/-- Settles O6: every command row is an accepting step, and that step does nothing while BUSY = 1. -/
theorem busyBlockAcceptsNothing : Obligations.BusyBlockAcceptsNothing :=
  fun a op s hb => ⟨fun p hp => (exec_constructedCommand hp s).trans (command_busy p.2 _ hb),
    (exec_construct a s).trans (command_busy 0x01#8 _ hb), (exec_illegal a op s).trans (command_busy op _ hb)⟩

/-! ### A transaction and its answer (20_memory R54, R56) -/

theorem answerIs_busError {s : State} {rest : List Answer} (x : Txn) (h : s.answers = .busError :: rest) :
    s.answerIs x .busError rest := .inl ⟨h, rfl⟩

theorem answerIs_write_ok {s : State} {bytes : List Byte} {rest : List Answer} (d reg v : Byte)
    (h : s.answers = .ok bytes :: rest) : s.answerIs (.wr d reg v) (.ok []) rest := .inr ⟨bytes, h, rfl⟩

theorem answerIs_read_ok {s : State} {bytes : List Byte} {rest : List Answer} {n : Byte} (d reg : Byte)
    (hl : bytes.length = n.toNat) (h : s.answers = .ok bytes :: rest) : s.answerIs (.rd d reg n) (.ok bytes) rest :=
  .inr ⟨bytes, h, (if_pos hl).symm⟩

/-- R54: a read fails by a bus error, or by an answer of another length. -/
theorem answerIs_read_failed {s : State} {rest : List Answer} {n : Byte} (d reg : Byte)
    (h : s.answers = .busError :: rest ∨ ∃ bytes, bytes.length ≠ n.toNat ∧ s.answers = .ok bytes :: rest) :
    s.answerIs (.rd d reg n) .busError rest :=
  h.imp (⟨·, rfl⟩) fun ⟨bytes, hl, ha⟩ => ⟨bytes, ha, (if_neg hl).symm⟩

/-- The sequencer's own transaction with its answer at hand. -/
theorem transact_answered {s : State} {x : Txn} {r : Reply} {rest : List Answer} (f : Reply → State → State)
    (hx : s.request = some x) (ha : s.answerIs x r rest) : s.transact x f = .next (f r (s.answered x r rest)) := by
  rw [transact_of_request f hx]
  obtain ⟨ha, rfl⟩ | ⟨bytes, ha, rfl⟩ := ha
  · rw [exchange_busError ha]
  · rw [exchange_ok ha]

/-- 60_exceptions R206: what a failed transaction leaves in every register. -/
theorem frame_of_raise {o : Host.Outcome State Fault Refusal} {s : State} {x : Txn} {r : Reply} {rest : List Answer}
    {e : ErrKind} {cause : Bool} {info : Byte} (h : o = .next ((s.answered x r rest).raise e cause info)) :
    ∃ x0 x1 x2 raw hp ht k, o = .next { s with
      busy := false, done := true, st := .idle
      resKind := .none, v0 := x0, v1 := x1, v2 := x2
      errKind := e, errCause := cause, errInfo := info
      answers := rest, outstanding := none
      trace := s.trace ++ [.answered x r]
      raw := raw, hPmbar := hp, hTc := ht, free := k } :=
  ⟨_, _, _, _, _, _, _, h⟩

/-- Settles O9: the three outcomes of the identity read (R168). -/
theorem identityReadDecidesConstruction : Obligations.IdentityReadDecidesConstruction := by
  rintro d s rest hst hop rfl
  have run {r : Reply} (ha : s.answerIs (.rd s.devAddr 0x0C#8 1#8) r rest) : exec (.rdWhoami s.devAddr) s =
      .next (State.afterIdentity r (s.answered (.rd s.devAddr 0x0C#8 1#8) r rest)) :=
    transact_answered _ (request_identity hst hop) ha
  refine ⟨?pass, ?other, ?failed⟩
  case pass => exact fun h => ⟨_, _, _, _, run (answerIs_read_ok _ _ rfl h)⟩
  case other =>
    exact fun b hb h => frame_of_raise
      ((run (answerIs_read_ok _ _ rfl h)).trans (congrArg _ (onIdentity_fail _ hb)))
  case failed => exact fun h => frame_of_raise (run (answerIs_read_failed _ _ h))

/-- Settles O10. -/
theorem firstSetupWrite : Obligations.FirstSetupWrite := by
  rintro d s rest hst hsub rfl
  have run {r : Reply} (ha : s.answerIs (.wr s.devAddr 0x13#8 0x07#8) r rest) : exec (.wrPtcfg s.devAddr) s =
      .next (State.afterPtcfg r (s.answered (.wr s.devAddr 0x13#8 0x07#8) r rest)) :=
    transact_answered _ (request_ptcfg hst hsub) ha
  exact ⟨fun bytes h => run (answerIs_write_ok _ _ _ h), fun h => frame_of_raise (run (answerIs_busError _ h))⟩

/-- R162: the commands and cycles of each mode pattern. -/
theorem cycle_of_mode {s : State} {i : Instr} {d pat : Byte}
    (h : i = .wrCtrlBaro d ∧ pat = 0x39#8 ∧ s.phase = false ∧ (s.opc = 0x02#8 ∨ s.opc = 0x04#8 ∨ s.opc = 0x05#8) ∨
      i = .wrCtrlAlt d ∧ pat = 0xB9#8 ∧ (s.opc = 0x03#8 ∧ s.phase = false ∨ s.opc = 0x05#8 ∧ s.phase = true)) :
    exec i s = s.transact (.wr d 0x26#8 pat) State.afterCtrl ∧ ∃ c, s.cycle = some c ∧ c.ctrlPat = pat := by
  obtain ⟨rfl, rfl, hph, hop | hop | hop⟩ | ⟨rfl, rfl, ⟨hop, hph⟩ | ⟨hop, hph⟩⟩ := h <;>
    exact ⟨rfl, by simp [State.cycle, cycleOf, hop, hph]⟩

/-- Settles O11: the mode pattern is the running cycle's (`cycle_of_mode`). -/
theorem secondSetupWrite : Obligations.SecondSetupWrite := by
  rintro d pat i s rest hst hsub rfl hmode
  obtain ⟨hexec, c, hc, rfl⟩ := cycle_of_mode hmode
  have run {r : Reply} (ha : s.answerIs (.wr s.devAddr 0x26#8 c.ctrlPat) r rest) : exec i s =
      .next (State.afterCtrl r (s.answered (.wr s.devAddr 0x26#8 c.ctrlPat) r rest)) :=
    hexec.trans (transact_answered _ (request_ctrl hst hsub hc) ha)
  exact ⟨fun bytes h => run (answerIs_write_ok _ _ _ h), fun h => frame_of_raise (run (answerIs_busError _ h))⟩

/-- Settles O12. -/
theorem standbyWrite : Obligations.StandbyWrite := by
  rintro d s rest hst hop rfl
  have run {r : Reply} (ha : s.answerIs (.wr s.devAddr 0x26#8 0x38#8) r rest) : exec (.wrCtrlStby s.devAddr) s =
      .next (State.afterStandby r (s.answered (.wr s.devAddr 0x26#8 0x38#8) r rest)) :=
    transact_answered _ (request_standby hst hop) ha
  exact ⟨fun bytes h => ⟨_, _, _, _, run (answerIs_write_ok _ _ _ h)⟩,
    fun h => frame_of_raise (run (answerIs_busError _ h))⟩

/-- R165: the budget is spent by the last read a finite bound allows. -/
theorem budgetSpent_iff (bound : PollBound) (n : Nat) :
    budgetSpent bound n = true ↔ ∃ h, bound = .reads (n + 1) h := by
  cases bound with
  | inf => simp [budgetSpent]
  | reads m pos =>
    constructor
    · intro h
      obtain rfl : n + 1 = m := by simpa only [budgetSpent, beq_iff_eq] using h
      exact ⟨pos, rfl⟩
    · rintro ⟨h, heq⟩
      cases heq
      exact beq_self_eq_true (n + 1)

/-- The STATUS read with its answer (R165). -/
theorem exec_rdStatus_answered {s : State} {r : Reply} {rest : List Answer} (hst : s.st = .polling)
    (ha : s.answerIs (.rd s.devAddr 0x00#8 1#8) r rest) : exec (.rdStatus s.devAddr) s =
      .next (State.afterStatus Config.pollMax r (s.answered (.rd s.devAddr 0x00#8 1#8) r rest)) :=
  transact_answered _ (request_status hst) ha

/-- Settles O13: a bus failure first, then bit 3, then the budget. -/
theorem pollStep : Obligations.PollStep := by
  refine ⟨?_, budgetSpent_iff⟩
  rintro d s rest hst rfl
  refine ⟨?ready, ?clear, ?failed⟩
  case ready =>
    intro b hb h
    rw [exec_rdStatus_answered hst (answerIs_read_ok _ _ rfl h)]
    exact congrArg _ (onStatus_ready _ _ ((rdy_eq_true_iff b).2 hb))
  case clear =>
    intro b hb h
    have hrdy := (rdy_eq_false_iff b).2 hb
    rw [exec_rdStatus_answered hst (answerIs_read_ok _ _ rfl h)]
    cases hs : budgetSpent Config.pollMax s.pollCnt with
    | true => exact frame_of_raise (congrArg _ (onStatus_spent (s.answered _ _ rest) hrdy hs))
    | false =>
      exact ⟨s.v0, s.v1, s.v2, s.raw, s.hPmbar, s.hTc, s.free,
        congrArg _ (onStatus_again (s.answered _ _ rest) hrdy hs)⟩
  case failed =>
    exact fun h => frame_of_raise (exec_rdStatus_answered hst (answerIs_read_failed _ _ h))

/-- R30: a burst of up to five bytes fills RAW from its first place on. -/
theorem loadRaw_take (s : State) {bytes : List Byte} (h : bytes.length ≤ 5) :
    (s.loadRaw bytes).raw.list.take bytes.length = bytes := by
  match bytes, h with
  | [], _ | [_], _ | [_, _], _ | [_, _, _], _ | [_, _, _, _], _ | [_, _, _, _, _], _ => rfl
  | _ :: _ :: _ :: _ :: _ :: _ :: _, h => simp at h; omega

/-- R162: the commands and cycles of each burst. -/
theorem cycle_of_burst {s : State} {i : Instr} {d start n : Byte}
    (h : i = .rdP3 d ∧ start = 0x01#8 ∧ n = 3#8 ∧
        ((s.opc = 0x02#8 ∨ s.opc = 0x03#8) ∧ s.phase = false ∨ s.opc = 0x05#8 ∧ s.phase = true) ∨
      i = .rdT2 d ∧ start = 0x04#8 ∧ n = 2#8 ∧ s.opc = 0x04#8 ∧ s.phase = false ∨
      i = .rdPt5 d ∧ start = 0x01#8 ∧ n = 5#8 ∧ s.opc = 0x05#8 ∧ s.phase = false) :
    exec i s = s.transact (.rd d start n) (State.afterBurst start) ∧ n.toNat ≤ 5 ∧
      ∃ c, s.cycle = some c ∧ c.start = start ∧ c.count = n := by
  obtain ⟨rfl, rfl, rfl, ⟨hop | hop, hph⟩ | ⟨hop, hph⟩⟩ | ⟨rfl, rfl, rfl, hop, hph⟩ | ⟨rfl, rfl, rfl, hop, hph⟩ := h <;>
    exact ⟨rfl, by decide, by simp [State.cycle, cycleOf, hop, hph]⟩

/-- Settles O14: the burst is the running cycle's (`cycle_of_burst`), and RAW takes its bytes in order (`loadRaw_take`). -/
theorem burstRead : Obligations.BurstRead := by
  rintro d start n i s rest hst rfl hburst
  obtain ⟨hexec, hn, c, hc, rfl, rfl⟩ := cycle_of_burst hburst
  have run {r : Reply} (ha : s.answerIs (.rd s.devAddr c.start c.count) r rest) : exec i s =
      .next (State.afterBurst c.start r (s.answered (.rd s.devAddr c.start c.count) r rest)) :=
    hexec.trans (transact_answered _ (request_burst hst hc) ha)
  refine ⟨?loaded, fun h => frame_of_raise (run (answerIs_read_failed _ _ h))⟩
  case loaded =>
    intro bytes hl h
    exact ⟨_, _, hl ▸ loadRaw_take s (hl ▸ hn), run (answerIs_read_ok _ _ hl h)⟩

/-- Settles O15: with no answer the exchange only waits. -/
theorem unansweredTransactionWaits : Obligations.UnansweredTransactionWaits := by
  intro d s p hp hx
  have run : exec p.1 s = .next (s.exchange p.2 (rowUpdate p.1)) :=
    (exec_transactionRow hp s).trans (transact_of_request _ hx)
  refine ⟨fun ha => ?_, fun rest ha => ?_⟩
  · rw [run, exchange_nil ha, State.waiting, ← ha]
  · rw [run, exchange_silent ha, State.waiting]

/-- Settles O16. -/
theorem transactionOutOfSequenceIsRefused : Obligations.TransactionOutOfSequenceIsRefused :=
  fun _ s _ hp hx => (exec_transactionRow hp s).trans (if_neg hx)

/-! ### The byte patterns (30_encoding R85) -/

/-- A pattern that is an answered byte runs when it is the answer at hand. -/
theorem receive_answered {s : State} {x : Txn} {b : Byte} {rest : List Answer} (f : State → State)
    (hx : s.request = some x) (ha : s.answers = .ok [b] :: rest) :
    s.receive x b f = .next (f (s.answered x (.ok [b]) rest)) := by
  simp [State.receive, State.answeredWith, hx, ha]

theorem exec_rdWhoami_passed {s : State} {rest : List Answer} (hst : s.st = .single) (hop : s.opc = 0x01#8)
    (ha : s.answers = .ok [0xC4#8] :: rest) : exec (.rdWhoami s.devAddr) s = .next
      { s.answered (.rd s.devAddr 0x0C#8 1#8) (.ok [0xC4#8]) rest with identOk := true }.finish :=
  transact_answered _ (request_identity hst hop) (answerIs_read_ok _ _ rfl ha)

/-- R85, R115: bit 3 of a STATUS pattern is the bit between its two ignored parts. -/
theorem rdy_append (hi : BitVec 4) (bit : BitVec 1) (lo : BitVec 3) : rdy (hi ++ bit ++ lo) = (bit == 1#1) := by
  have hbit : BitVec.getLsbD (hi ++ bit ++ lo : BitVec (4 + 1 + 3)) 3 = bit.getLsbD 0 := by
    simp only [BitVec.getLsbD_append]
    rfl
  rw [Bool.eq_iff_iff, rdy_iff, beq_iff_eq]
  rcases BitVec.eq_zero_or_eq_one bit with rfl | rfl
  · exact iff_of_false (by rw [hbit]; decide) (by decide)
  · exact iff_of_true (by rw [hbit]; decide) (by decide)

/-- A STATUS pattern runs as the STATUS read answered with it. -/
theorem receive_status {s : State} {b : Byte} {rest : List Answer} (hst : s.st = .polling)
    (ha : s.answers = .ok [b] :: rest) :
    (s.receive (.rd s.devAddr 0x00#8 1#8) b fun t => t.onStatus Config.pollMax b) = exec (.rdStatus s.devAddr) s :=
  (receive_answered _ (request_status hst) ha).trans
    (exec_rdStatus_answered hst (answerIs_read_ok _ _ rfl ha)).symm

/-- R165: without bit 3 a STATUS byte does not lead to the burst. -/
theorem onStatus_st_ne_dataReady {bound : PollBound} {b : Byte} {s : State} (h : rdy b = false)
    (hst : s.st ≠ .dataReady) : (s.onStatus bound b).st ≠ .dataReady := by
  cases hs : budgetSpent bound s.pollCnt with
  | true => simp [onStatus_spent s h hs]
  | false => simpa [onStatus_again s h hs] using hst

/-- The write patterns of the setup are rows of their transaction by definition; which cycles carry them is R162's. -/
theorem setupPattern {s : State} {i row : Instr} {reg : Byte}
    (h : i = .ptcfgEnable ∧ row = .wrPtcfg s.devAddr ∧ reg = 0x13#8 ∧ s.sub = false ∨
        i = .ctrlBaroActive ∧ row = .wrCtrlBaro s.devAddr ∧ reg = 0x26#8 ∧ s.sub = true ∧ s.phase = false ∧
          (s.opc = 0x02#8 ∨ s.opc = 0x04#8 ∨ s.opc = 0x05#8) ∨
        i = .ctrlAltActive ∧ row = .wrCtrlAlt s.devAddr ∧ reg = 0x26#8 ∧ s.sub = true ∧
          (s.opc = 0x03#8 ∧ s.phase = false ∨ s.opc = 0x05#8 ∧ s.phase = true)) :
    exec i s = exec row s ∧
      (row = .wrPtcfg s.devAddr ∧ reg = 0x13#8 ∧ s.sub = false ∨ reg = 0x26#8 ∧ s.sub = true ∧ ∃ pat,
        (row = .wrCtrlBaro s.devAddr ∧ pat = 0x39#8 ∧ s.phase = false ∧
            (s.opc = 0x02#8 ∨ s.opc = 0x04#8 ∨ s.opc = 0x05#8) ∨
          row = .wrCtrlAlt s.devAddr ∧ pat = 0xB9#8 ∧
            (s.opc = 0x03#8 ∧ s.phase = false ∨ s.opc = 0x05#8 ∧ s.phase = true))) := by
  obtain ⟨rfl, rfl, rfl, hsub⟩ | ⟨rfl, rfl, rfl, hsub, hmode⟩ | ⟨rfl, rfl, rfl, hsub, hmode⟩ := h
  · exact ⟨rfl, .inl ⟨rfl, rfl, hsub⟩⟩
  · exact ⟨rfl, .inr ⟨rfl, hsub, _, .inl ⟨rfl, rfl, hmode⟩⟩⟩
  · exact ⟨rfl, .inr ⟨rfl, hsub, _, .inr ⟨rfl, rfl, hmode⟩⟩⟩

/-- Settles O17: a write pattern is its transaction's row (`setupPattern`), an answered pattern the row with that answer
(`receive_answered`), and the rows' rules say what each leads to. -/
theorem patternsRunTheirTransaction : Obligations.PatternsRunTheirTransaction := by
  intro s rest
  refine ⟨?identity, ?setup, ?standby, ?ready, ?notReady⟩
  case identity =>
    intro hst hop ha
    exact ⟨_, receive_answered (fun t => t.onIdentity 0xC4#8) (request_identity hst hop) ha,
      exec_rdWhoami_passed hst hop ha, rfl, rfl, rfl⟩
  case setup =>
    intro i row reg hst hpat
    obtain ⟨hexec, ⟨rfl, rfl, hsub⟩ | ⟨rfl, hsub, pat, hmode⟩⟩ := setupPattern hpat
    · obtain ⟨hok, herr⟩ := firstSetupWrite s.devAddr s rest hst hsub rfl
      refine ⟨fun bytes ha => ⟨_, hexec.trans (hok bytes ha), hok bytes ha, rfl, ?_⟩, fun ha => ?_⟩
      · rw [if_pos rfl]
        exact ⟨hst, rfl⟩
      · obtain ⟨x0, x1, x2, r, hp, ht, k, hrun⟩ := herr ha
        exact ⟨_, hexec.trans hrun, hrun, rfl, rfl, rfl, rfl⟩
    · obtain ⟨hok, herr⟩ := secondSetupWrite s.devAddr pat row s rest hst hsub rfl hmode
      refine ⟨fun bytes ha => ⟨_, hexec.trans (hok bytes ha), hok bytes ha, rfl, ?_⟩, fun ha => ?_⟩
      · rw [if_neg (by decide)]
        exact ⟨rfl, rfl⟩
      · obtain ⟨x0, x1, x2, r, hp, ht, k, hrun⟩ := herr ha
        exact ⟨_, hexec.trans hrun, hrun, rfl, rfl, rfl, rfl⟩
  case standby =>
    intro hst hop
    obtain ⟨hok, herr⟩ := standbyWrite s.devAddr s rest hst hop rfl
    refine ⟨fun bytes ha => ?_, fun ha => ?_⟩
    · obtain ⟨r, hp, ht, k, hrun⟩ := hok bytes ha
      exact ⟨_, hrun, hrun, rfl, rfl, rfl⟩
    · obtain ⟨x0, x1, x2, r, hp, ht, k, hrun⟩ := herr ha
      exact ⟨_, hrun, hrun, rfl, rfl, rfl, rfl⟩
  case ready =>
    intro hi lo hst ha
    have hrun := exec_rdStatus_answered hst (answerIs_read_ok _ _ rfl ha)
    refine ⟨_, (receive_status hst ha).trans hrun, hrun, ?_⟩
    exact congrArg State.st (onStatus_ready _ _ (rdy_append hi 1#1 lo))
  case notReady =>
    intro hi lo hst ha
    have hrun := exec_rdStatus_answered hst (answerIs_read_ok _ _ rfl ha)
    exact ⟨_, (receive_status hst ha).trans hrun, hrun,
      onStatus_st_ne_dataReady (rdy_append hi 0#1 lo) (by simp [hst])⟩

/-! ### The samples (R167) -/

/-- The Decoded step runs the row whose word is the sample in RAW. -/
theorem exec_sample {s : State} {c : Cycle} {i : Instr} (hst : s.st = .decoded) (hc : s.cycle = some c)
    (hw : i.wellFormed = true) (hp : i.place = c.layout) (he : encode i = s.sampleBytes c.layout) :
    exec i s = .next (s.runSample c.layout) := by
  have hd : decode c.layout (s.sampleBytes c.layout) = .ok i := by
    rw [← he, ← hp]
    exact decodeOfEncodeIsTheInstruction i hw
  rw [← blockStep_decoded hst hc]
  simp [blockStep, State.fetch, hst, sample_of_cycle hst hc, hd]

theorem cycle_pressure {s : State} (hop : s.opc = 0x02#8) (hph : s.phase = false) :
    s.cycle = some ⟨0x39#8, 0x01#8, 3#8, .pressure⟩ := by simp [State.cycle, cycleOf, hop, hph]

theorem cycle_altitude {s : State} (hop : s.opc = 0x03#8) (hph : s.phase = false) :
    s.cycle = some ⟨0xB9#8, 0x01#8, 3#8, .altitude⟩ := by simp [State.cycle, cycleOf, hop, hph]

theorem cycle_temperature {s : State} (hop : s.opc = 0x04#8) (hph : s.phase = false) :
    s.cycle = some ⟨0x39#8, 0x04#8, 2#8, .temperature⟩ := by simp [State.cycle, cycleOf, hop, hph]

theorem cycle_slp_first {s : State} (hop : s.opc = 0x05#8) (hph : s.phase = false) :
    s.cycle = some ⟨0x39#8, 0x01#8, 5#8, .pressureTemperature⟩ := by simp [State.cycle, cycleOf, hop, hph]

theorem cycle_slp_second {s : State} (hop : s.opc = 0x05#8) (hph : s.phase = true) :
    s.cycle = some ⟨0xB9#8, 0x01#8, 3#8, .altitude⟩ := by simp [State.cycle, cycleOf, hop, hph]

/-- R167: the altitude layout serves two commands, told apart by OPC. -/
theorem runSample_altitude {s : State} (hop : s.opc = 0x03#8) :
    s.runSample .altitude = s.deliverAltitude s.raw.b0 s.raw.b1 s.raw.b2 := by
  simp [State.runSample, hop]

theorem runSample_slp {s : State} (hop : s.opc = 0x05#8) :
    s.runSample .altitude = s.deliverSlp s.raw.b0 s.raw.b1 s.raw.b2 := by
  simp [State.runSample, hop]

/-- Settles O18. -/
theorem pressureSampleIsDelivered : Obligations.PressureSampleIsDelivered :=
  fun _ _ _ _ hst hop hph he => ⟨_, _, _, _, exec_sample hst (cycle_pressure hop hph) rfl rfl he⟩

/-- Settles O19. -/
theorem altitudeSampleIsDelivered : Obligations.AltitudeSampleIsDelivered :=
  fun _ _ _ _ _ hst hop hph he => ⟨_, _, _, _, _,
    (exec_sample hst (cycle_altitude hop hph) rfl rfl he).trans (congrArg _ (runSample_altitude hop))⟩

/-- Settles O20. -/
theorem seaLevelPressureIsDelivered : Obligations.SeaLevelPressureIsDelivered :=
  fun _ _ _ _ _ hst hop hph he => ⟨_, _, _, _, _, rfl,
    (exec_sample hst (cycle_slp_second hop hph) rfl rfl he).trans (congrArg _ (runSample_slp hop))⟩

/-- Settles O21. -/
theorem temperatureSampleIsDelivered : Obligations.TemperatureSampleIsDelivered :=
  fun _ _ _ _ _ hst hop hph he => ⟨_, _, _, _, exec_sample hst (cycle_temperature hop hph) rfl rfl he⟩

/-- Settles O22. -/
theorem firstCycleOfSlpHoldsItsSample : Obligations.FirstCycleOfSlpHoldsItsSample :=
  fun _ _ _ _ _ _ _ _ hst hop hph he => ⟨_, _, exec_sample hst (cycle_slp_first hop hph) rfl rfl he⟩

/-- The words a cycle's row of R162 stands for, as they are fetched. -/
theorem fetch_of_cycle {s : State} {c : Cycle} (hc : s.cycle = some c) :
    (s.st = .configWritten → s.sub = true → s.fetch = .word .writeTxn [s.devAddr, 0x26#8, c.ctrlPat]) ∧
      (s.st = .dataReady → s.fetch = .word .readTxn [s.devAddr, c.start, c.count]) ∧
      (s.st = .decoded → s.fetch = .word c.layout (s.sampleBytes c.layout)) :=
  ⟨fun hst hsub => fetch_of_request (request_ctrl hst hsub hc), fun hst => fetch_of_request (request_burst hst hc),
    fun hst => by simp [State.fetch, hst, sample_of_cycle hst hc]⟩

/-- Settles O24: row by row, R162's parameters and the bytes of RAW its layout reads. -/
theorem cycleTableIsFollowed : Obligations.CycleTableIsFollowed := by
  intro opc ctrl start n phase layout hrow s hop hph
  subst hop hph
  simp only [List.mem_cons, List.not_mem_nil, or_false, Prod.mk.injEq] at hrow
  obtain ⟨hop, hph, rfl, rfl, rfl, rfl⟩ | ⟨hop, hph, rfl, rfl, rfl, rfl⟩ | ⟨hop, hph, rfl, rfl, rfl, rfl⟩ |
    ⟨hop, hph, rfl, rfl, rfl, rfl⟩ | ⟨hop, hph, rfl, rfl, rfl, rfl⟩ := hrow
  · exact fetch_of_cycle (cycle_pressure hop hph)
  · exact fetch_of_cycle (cycle_altitude hop hph)
  · exact fetch_of_cycle (cycle_temperature hop hph)
  · exact fetch_of_cycle (cycle_slp_first hop hph)
  · exact fetch_of_cycle (cycle_slp_second hop hph)

end Sys2Proof.Machine
end

section
/-! What the block's writes leave in the sensors (10_state R40, 60_exceptions R209), by the rules of Laws/Memory. -/

namespace Sys2Proof.Machine

theorem foldl_apply_wf (trace : List Exchange) {m : Memory} (h : m.wf = true) :
    (trace.foldl Memory.apply m).wf = true := by
  induction trace generalizing m with
  | nil => exact h
  | cons e rest ih => exact ih (Memory.apply_wf m e h)

/-- The account of written bytes is in canonical form in every state. -/
theorem written_wf (s : State) : s.written.wf = true := foldl_apply_wf s.trace rfl

/-- One more entry of the trace is one more change to the account. -/
theorem written_append {s t : State} {e : Exchange} (h : t.trace = s.trace ++ [e]) :
    t.written = s.written.apply e := by
  simp [State.written, h]

/-- An entry changes at most the byte of the register it writes. -/
theorem read_apply_other (m : Memory) {e : Exchange} {d reg : Byte} (h : ∀ v, e.txn ≠ .wr d reg v) :
    (m.apply e).read (cellOf d reg) = m.read (cellOf d reg) := by
  have other {d' reg' v' : Byte} (ht : e.txn = .wr d' reg' v') : cellOf d reg ≠ cellOf d' reg' := by
    intro hc
    obtain ⟨rfl, rfl⟩ := cellOf_inj hc
    exact h v' ht
  match e with
  | .answered (.wr _ _ value) (.ok _) => exact Memory.read_write_other m value (other rfl)
  | .answered (.wr _ _ _) .busError => exact Memory.read_forget_other m (other rfl)
  | .abandoned (.wr _ _ _) => exact Memory.read_forget_other m (other rfl)
  | .answered (.rd _ _ _) _ => rfl
  | .abandoned (.rd _ _ _) => rfl

/-- 60_exceptions R209: an acknowledged write leaves its byte. -/
theorem writtenByte_of_write {s t : State} {d reg v : Byte} {r : List Byte}
    (h : t.trace = s.trace ++ [.answered (.wr d reg v) (.ok r)]) : t.writtenByte d reg = some v := by
  rw [State.writtenByte, written_append h]
  exact Memory.read_write_same s.written (cellOf d reg) v

/-- An entry that writes another register, or none, leaves the byte as it is known. -/
theorem writtenByte_of_other {s t : State} {e : Exchange} {d reg : Byte} (h : t.trace = s.trace ++ [e])
    (hne : ∀ v, e.txn ≠ .wr d reg v) : t.writtenByte d reg = s.writtenByte d reg := by
  rw [State.writtenByte, written_append h]
  exact read_apply_other s.written hne

/-- Settles O50: the account takes the entry in (`written_append`), and each case is a rule of the memory. -/
theorem writtenBytesFollowTheTrace : Obligations.WrittenBytesFollowTheTrace := by
  intro s t e h
  refine ⟨written_wf t, ?acknowledged, ?unknown, fun d reg hne => writtenByte_of_other h hne⟩
  case acknowledged =>
    rintro d reg v r rfl
    exact writtenByte_of_write h
  case unknown =>
    rintro d reg v (rfl | rfl) <;> rw [State.writtenByte, written_append h] <;>
      exact Memory.read_forget_same s.written (cellOf d reg) (written_wf s)

end Sys2Proof.Machine
end

section
/-! The order of the decoded values (40_decode R118). -/

namespace Sys2Proof.Machine

/-- R111: pressure counts the sample's 24 bits, read unsigned. -/
theorem decP_value_word (m c l : Byte) : (decP m c l).value = ((m ++ c ++ l : BitVec 24).toNat : ℚ) / 64 := by
  have word : (m ++ c ++ l : BitVec 24).toNat = 65536 * m.toNat + 256 * c.toNat + l.toNat := by
    simp only [toNat_append_eq_add]
    omega
  rw [decP_value_bytes, word]
  push_cast
  rfl

/-- R112: altitude counts the sample's 24 bits, read signed. -/
theorem decA_value_word (m c l : Byte) : (decA m c l).value = ((m ++ c ++ l : BitVec 24).toInt : ℚ) / 256 := by
  have word : (m ++ c ++ l : BitVec 24).toInt = 2 ^ 8 * (m ++ c : BitVec 16).toInt + l.toNat :=
    toInt_append_eq_add (by decide) _ _
  rw [decA_value_bytes, word]
  push_cast
  ring

/-- R113: temperature counts the sample's 16 bits, read signed. -/
theorem decT_value_word (t u : Byte) : (decT t u).value = ((t ++ u : BitVec 16).toInt : ℚ) / 256 := by
  have word : (t ++ u : BitVec 16).toInt = 2 ^ 8 * t.toInt + u.toNat := toInt_append_eq_add (by decide) _ _
  rw [decT_value, word]
  push_cast
  ring

/-- Settles O54: each value is its word, read unsigned or signed, over a positive constant. -/
theorem decodesAreStrictlyIncreasing : Obligations.DecodesAreStrictlyIncreasing := by
  refine ⟨fun m c l m' c' l' h => ?_, fun m c l m' c' l' h => ?_, fun t u t' u' h => ?_⟩
  · rw [decP_value_word, decP_value_word]
    gcongr
  · rw [decA_value_word, decA_value_word]
    gcongr
  · rw [decT_value_word, decT_value_word]
    gcongr

end Sys2Proof.Machine
end

section
/-! Rounding in the terms of 41_convert R131: the exact value of a number, the numbers a significand of 53 bits can hold, and
that `roundFrac` gives the nearest of them, ties to even, within a relative error of 2^-53. -/

namespace Sys2Proof.Machine

/-! ### The value of a number -/

theorem two_zpow_eq_div (e : Int) : (2 : ℚ) ^ e = (2 ^ e.toNat : ℕ) / (2 ^ (-e).toNat : ℕ) := by
  have split : e = (e.toNat : Int) - ((-e).toNat : Int) := (Int.toNat_sub_toNat_neg e).symm
  conv_lhs => rw [split]
  rw [zpow_sub₀ two_ne_zero, zpow_natCast, zpow_natCast]
  push_cast
  rfl

/-- R130: significand times a power of two. -/
theorem numValue_eq (x : Binary64) : numValue x = x.sig * (2 : ℚ) ^ x.exp := by
  rw [numValue, numer, denom, two_zpow_eq_div]
  push_cast
  ring

theorem numValue_eq_zero_iff (x : Binary64) : numValue x = 0 ↔ x.sig = 0 := by
  have hpow : (2 : ℚ) ^ x.exp ≠ 0 := by positivity
  simp [numValue_eq, hpow]

@[simp] theorem numValue_zero : numValue Binary64.zero = 0 := (numValue_eq_zero_iff _).2 rfl

theorem canonical_iff (x : Binary64) :
    x.canonical = true ↔ x = Binary64.zero ∨ 2 ^ 52 ≤ x.sig.natAbs ∧ x.sig.natAbs < 2 ^ 53 := by
  simp [Binary64.canonical]

/-- A number of the format with significand 0 is 0 in its one form. -/
theorem eq_zero_of_canonical {x : Binary64} (h : x.canonical = true) (hs : x.sig = 0) : x = Binary64.zero := by
  rcases (canonical_iff x).1 h with hx | ⟨hlo, -⟩
  · exact hx
  · simp [hs] at hlo

/-- A nonzero number of the format with the smaller exponent has the smaller magnitude. -/
theorem abs_numValue_lt_of_exp_lt {x y : Binary64} (hx : x.sig.natAbs < 2 ^ 53) (hy : 2 ^ 52 ≤ y.sig.natAbs)
    (he : x.exp < y.exp) : |numValue x| < |numValue y| := by
  have hx' : |(x.sig : ℚ)| < 2 ^ 53 := by rw [← Int.cast_abs, Int.abs_eq_natAbs]; exact_mod_cast hx
  have hy' : (2 : ℚ) ^ 52 ≤ |(y.sig : ℚ)| := by rw [← Int.cast_abs, Int.abs_eq_natAbs]; exact_mod_cast hy
  have hpow : (2 : ℚ) ^ x.exp * 2 ≤ 2 ^ y.exp := by
    rw [← zpow_add_one₀ two_ne_zero]
    exact zpow_le_zpow_right₀ one_le_two he
  have hpos : (0 : ℚ) < 2 ^ x.exp := by positivity
  rw [numValue_eq, numValue_eq, abs_mul, abs_mul, abs_of_pos hpos, abs_of_pos (show (0 : ℚ) < 2 ^ y.exp by positivity)]
  calc |(x.sig : ℚ)| * 2 ^ x.exp < 2 ^ 53 * 2 ^ x.exp := by gcongr
    _ = 2 ^ 52 * (2 ^ x.exp * 2) := by ring
    _ ≤ |(y.sig : ℚ)| * 2 ^ y.exp := by gcongr

/-- R131: a number of the format is determined by its value. -/
theorem canonical_inj {x y : Binary64} (hx : x.canonical = true) (hy : y.canonical = true)
    (h : numValue x = numValue y) : x = y := by
  rcases (canonical_iff x).1 hx with rfl | ⟨hxlo, hxhi⟩
  · have hy0 : numValue y = 0 := by rw [← h, numValue_zero]
    exact (eq_zero_of_canonical hy ((numValue_eq_zero_iff y).1 hy0)).symm
  rcases (canonical_iff y).1 hy with rfl | ⟨hylo, hyhi⟩
  · exact eq_zero_of_canonical hx ((numValue_eq_zero_iff x).1 (by rw [h, numValue_zero]))
  have he : x.exp = y.exp := by
    rcases lt_trichotomy x.exp y.exp with hlt | heq | hgt
    · exact absurd (congrArg abs h) (abs_numValue_lt_of_exp_lt hxhi hylo hlt).ne
    · exact heq
    · exact absurd (congrArg abs h) (abs_numValue_lt_of_exp_lt hyhi hxlo hgt).ne'
  have hpow : (2 : ℚ) ^ y.exp ≠ 0 := by positivity
  have hs : (x.sig : ℚ) = y.sig := by
    rw [numValue_eq, numValue_eq, he] at h
    exact mul_right_cancel₀ hpow h
  cases x
  cases y
  simp only [Binary64.mk.injEq]
  exact ⟨by exact_mod_cast hs, he⟩

/-! ### The values a significand of 53 bits can hold -/

/-- A rational with an integer significand below `2 ^ 53` at some exponent. -/
def Fits (w : ℚ) : Prop := ∃ z e : Int, |z| < 2 ^ 53 ∧ w = z * (2 : ℚ) ^ e

theorem fits_numValue {x : Binary64} (h : x.canonical = true) : Fits (numValue x) := by
  refine ⟨x.sig, x.exp, ?_, numValue_eq x⟩
  rcases (canonical_iff x).1 h with rfl | ⟨-, hhi⟩
  · decide
  · rw [Int.abs_eq_natAbs]
    exact_mod_cast hhi

theorem fits_neg {w : ℚ} (h : Fits w) : Fits (-w) := by
  obtain ⟨z, e, hz, rfl⟩ := h
  exact ⟨-z, e, by rwa [abs_neg], by push_cast; ring⟩

/-- At any exponent such a value is a whole multiple of the unit, or below `2 ^ 52` units. -/
theorem fits_at {w : ℚ} (h : Fits w) (k : Int) :
    (∃ z : Int, w = z * (2 : ℚ) ^ k) ∨ |w| < 2 ^ 52 * (2 : ℚ) ^ k := by
  obtain ⟨z, e, hz, rfl⟩ := h
  rcases le_or_gt k e with hke | hek
  · obtain ⟨j, hj⟩ : ∃ j : ℕ, e = k + j := ⟨(e - k).toNat, by omega⟩
    refine .inl ⟨z * 2 ^ j, ?_⟩
    rw [hj, zpow_add₀ two_ne_zero, zpow_natCast]
    push_cast
    ring
  · right
    have hz' : |(z : ℚ)| < 2 ^ 53 := by exact_mod_cast hz
    have hpow : (2 : ℚ) ^ e * 2 ≤ 2 ^ k := by
      rw [← zpow_add_one₀ two_ne_zero]
      exact zpow_le_zpow_right₀ one_le_two hek
    have hpos : (0 : ℚ) < 2 ^ e := by positivity
    rw [abs_mul, abs_of_pos hpos]
    calc |(z : ℚ)| * 2 ^ e < 2 ^ 53 * 2 ^ e := by gcongr
      _ = 2 ^ 52 * (2 ^ e * 2) := by ring
      _ ≤ 2 ^ 52 * 2 ^ k := by gcongr

/-! ### The nearest whole number, ties to even -/

/-- Half a unit away at most, and even at half a unit. -/
def NearestEven (N : Int) (x : ℚ) : Prop := |(N : ℚ) - x| ≤ 1 / 2 ∧ (|(N : ℚ) - x| = 1 / 2 → N % 2 = 0)

/-- Another whole number is a unit away from `N`, so half a unit or more from `x`. -/
theorem NearestEven.le_and_tie {N : Int} {x : ℚ} (h : NearestEven N x) (z : Int) :
    |(N : ℚ) - x| ≤ |(z : ℚ) - x| ∧ (|(N : ℚ) - x| = |(z : ℚ) - x| → z = N ∨ N % 2 = 0) := by
  obtain ⟨hhalf, htie⟩ := h
  by_cases hz : z = N
  · exact ⟨by rw [hz], fun _ => .inl hz⟩
  have hunit : (1 : ℚ) ≤ |(z : ℚ) - N| := by exact_mod_cast Int.one_le_abs (sub_ne_zero.2 hz)
  have htri : |(z : ℚ) - N| ≤ |(z : ℚ) - x| + |(N : ℚ) - x| := by
    calc |(z : ℚ) - N| = |((z : ℚ) - x) - ((N : ℚ) - x)| := by congr 1; ring
      _ ≤ _ := abs_sub _ _
  exact ⟨by linarith, fun heq => .inr (htie (by linarith))⟩

theorem nearestEven_spec (p : ℕ) {q : ℕ} (hq : 0 < q) : NearestEven (nearestEven p q) ((p : ℚ) / q) := by
  have hq' : (0 : ℚ) < q := by exact_mod_cast hq
  obtain ⟨f, hf⟩ : ∃ f : ℚ, f = ((p % q : ℕ) : ℚ) / q := ⟨_, rfl⟩
  have hfq : f * q = (p % q : ℕ) := by rw [hf, div_mul_cancel₀ _ hq'.ne']
  have hx : (p : ℚ) / q = (p / q : ℕ) + f := by
    have hdm : (p : ℚ) = q * (p / q : ℕ) + (p % q : ℕ) := by exact_mod_cast (Nat.div_add_mod p q).symm
    rw [div_eq_iff hq'.ne', add_mul, hfq]
    linarith
  have hf0 : 0 ≤ f := by rw [hf]; positivity
  have hf1 : f < 1 := by
    rw [hf, div_lt_one hq']
    exact_mod_cast Nat.mod_lt p hq
  have half_lt : q < 2 * (p % q) ↔ 1 / 2 < f := by
    rw [← @Nat.cast_lt ℚ]; push_cast; rw [← hfq]
    constructor <;> intro h <;> nlinarith
  have half_eq : 2 * (p % q) = q ↔ f = 1 / 2 := by
    rw [← @Nat.cast_inj ℚ]; push_cast; rw [← hfq]
    constructor
    · intro h
      have : (2 * f - 1) * q = 0 := by linarith
      rcases mul_eq_zero.1 this with h | h <;> linarith
    · rintro rfl; ring
  unfold nearestEven NearestEven
  rw [hx]
  generalize p / q = a
  split_ifs with h
  · have hge : 1 / 2 ≤ f := h.elim (fun h => (half_lt.1 h).le) fun h => (half_eq.1 h.1).ge
    have hdist : |(((a + 1 : ℕ) : Int) : ℚ) - (a + f)| = 1 - f := by
      rw [abs_of_nonneg (by push_cast; linarith)]
      push_cast
      ring
    rw [hdist]
    refine ⟨by linarith, fun heq => ?_⟩
    rcases h with h | ⟨-, hodd⟩
    · linarith [half_lt.1 h]
    · omega
  · have hle : f ≤ 1 / 2 := not_lt.1 fun hlt => h (.inl (half_lt.2 hlt))
    have hdist : |((a : Int) : ℚ) - (a + f)| = f := by
      rw [abs_sub_comm, abs_of_nonneg (by push_cast; linarith)]
      push_cast
      ring
    rw [hdist]
    refine ⟨hle, fun heq => ?_⟩
    have hodd : ¬ a % 2 = 1 := fun hodd => h (.inr ⟨half_eq.2 heq, hodd⟩)
    omega

/-! ### Rounding a magnitude -/

/-- The value of a significand and exponent. -/
def pairValue (x : Nat × Int) : ℚ := x.1 * (2 : ℚ) ^ x.2

/-- Halving a significand rounded up to `2 ^ 53` keeps the value, and the parity of an even one. -/
theorem roundScaled_value (p q : Nat) (k : Int) :
    pairValue (roundScaled p q k) = nearestEven p q * (2 : ℚ) ^ k ∧
      (nearestEven p q % 2 = 0 → (roundScaled p q k).1 % 2 = 0) := by
  unfold roundScaled
  split_ifs with h
  · refine ⟨?_, fun _ => by norm_num⟩
    rw [pairValue, h, zpow_add_one₀ two_ne_zero]
    push_cast
    ring
  · exact ⟨rfl, id⟩

/-- The scaling of `roundMagnitude`: the fraction as `p / q` units of `2 ^ k`, from `2 ^ 52` up to `2 ^ 53` of them. -/
theorem roundMagnitude_scaled {m d : Nat} (hm : 0 < m) (hd : 0 < d) :
    ∃ (p q : Nat) (k : Int), 0 < q ∧ q * 2 ^ 52 ≤ p ∧ p < q * 2 ^ 53 ∧ (m : ℚ) / d = p / q * 2 ^ k ∧
      roundMagnitude m d = roundScaled p q k := by
  obtain ⟨hlo, hhi⟩ := rough_bounds hm hd
  unfold roundMagnitude roundNormalized
  generalize roughExp m d = r at *
  have hq : 0 < d * 2 ^ r.toNat := by positivity
  have hvalue : (m : ℚ) / d = ((m * 2 ^ (-r).toNat : ℕ) : ℚ) / ((d * 2 ^ r.toNat : ℕ) : ℚ) * 2 ^ r := by
    rw [two_zpow_eq_div]
    push_cast
    have hd' : (d : ℚ) ≠ 0 := by exact_mod_cast hd.ne'
    field_simp
  generalize m * 2 ^ (-r).toNat = p at *
  generalize d * 2 ^ r.toNat = q at *
  split_ifs with h
  · refine ⟨2 * p, q, r - 1, hq, by linarith, by linarith, ?_, rfl⟩
    rw [hvalue, zpow_sub_one₀ two_ne_zero]
    push_cast
    ring
  · exact ⟨p, q, r, hq, not_lt.1 h, hhi, hvalue, rfl⟩

/-- R131 for a positive fraction `m / d`: nearest among the values that fit, ties to an even significand. -/
theorem roundMagnitude_nearest {m d : Nat} (hm : 0 < m) (hd : 0 < d) {w : ℚ} (hw : Fits w) :
    |pairValue (roundMagnitude m d) - m / d| ≤ |w - m / d| ∧
      (|pairValue (roundMagnitude m d) - m / d| = |w - m / d| →
        w = pairValue (roundMagnitude m d) ∨ (roundMagnitude m d).1 % 2 = 0) := by
  obtain ⟨p, q, k, hq, hlo, -, hv, hr⟩ := roundMagnitude_scaled hm hd
  obtain ⟨hval, hpar⟩ := roundScaled_value p q k
  rw [hr, hv, hval]
  have hpos : (0 : ℚ) < 2 ^ k := by positivity
  have units (z : ℚ) : |z * 2 ^ k - (p : ℚ) / q * 2 ^ k| = |z - p / q| * 2 ^ k := by
    rw [← sub_mul, abs_mul, abs_of_pos hpos]
  rw [units]
  rcases fits_at hw k with ⟨z, rfl⟩ | hsmall
  · obtain ⟨hle, htie⟩ := (nearestEven_spec p hq).le_and_tie z
    rw [units]
    refine ⟨mul_le_mul_of_nonneg_right hle hpos.le, fun heq => ?_⟩
    rcases htie (mul_right_cancel₀ hpos.ne' heq) with rfl | heven
    · exact .inl rfl
    · exact .inr (hpar (by omega))
  · have hx : (2 : ℚ) ^ 52 ≤ p / q := by
      rw [le_div_iff₀ (by exact_mod_cast hq), mul_comm]
      exact_mod_cast hlo
    obtain ⟨z, hz⟩ : ∃ z : Int, (z : ℚ) = 2 ^ 52 := ⟨2 ^ 52, by norm_num⟩
    have hbase := ((nearestEven_spec p hq).le_and_tie z).1
    have hlt : |((nearestEven p q : Int) : ℚ) - p / q| * 2 ^ k < |w - p / q * 2 ^ k| := by
      calc |((nearestEven p q : Int) : ℚ) - p / q| * 2 ^ k ≤ |(z : ℚ) - p / q| * 2 ^ k := by gcongr
        _ = p / q * 2 ^ k - 2 ^ 52 * 2 ^ k := by
          rw [hz, abs_sub_comm, abs_of_nonneg (by linarith)]
          ring
        _ < p / q * 2 ^ k - w := by linarith [(abs_lt.1 hsmall).2]
        _ ≤ |w - p / q * 2 ^ k| := by rw [abs_sub_comm]; exact le_abs_self _
    exact ⟨hlt.le, fun heq => absurd heq hlt.ne⟩

/-- R151: the error of rounding a positive fraction is half a unit of at least `2 ^ 52` units. -/
theorem roundMagnitude_error {m d : Nat} (hm : 0 < m) (hd : 0 < d) :
    |pairValue (roundMagnitude m d) - m / d| ≤ (m : ℚ) / d / 2 ^ 53 := by
  obtain ⟨p, q, k, hq, hlo, -, hv, hr⟩ := roundMagnitude_scaled hm hd
  have hpos : (0 : ℚ) < 2 ^ k := by positivity
  have hx : (2 : ℚ) ^ 52 ≤ p / q := by
    rw [le_div_iff₀ (by exact_mod_cast hq), mul_comm]
    exact_mod_cast hlo
  have hhalf : |((nearestEven p q : Int) : ℚ) - p / q| ≤ 1 / 2 := (nearestEven_spec p hq).1
  rw [hr, hv, (roundScaled_value p q k).1, ← sub_mul, abs_mul, abs_of_pos hpos]
  calc |((nearestEven p q : Int) : ℚ) - p / q| * 2 ^ k ≤ 1 / 2 * 2 ^ k := by gcongr
    _ = 2 ^ 52 * 2 ^ k / 2 ^ 53 := by ring
    _ ≤ p / q * 2 ^ k / 2 ^ 53 := by gcongr

/-! ### Rounding a fraction -/

theorem roundFrac_of_ne_zero {n : Int} (d : Nat) (hn : n ≠ 0) :
    roundFrac n d = ⟨n.sign * ((roundMagnitude n.natAbs d).1 : Int), (roundMagnitude n.natAbs d).2⟩ := if_neg hn

theorem numValue_pair (z : Int) (x : Nat × Int) : numValue ⟨z * (x.1 : Int), x.2⟩ = z * pairValue x := by
  rw [numValue_eq, pairValue]
  push_cast
  ring

/-- The sign is set aside and put back. -/
theorem numValue_roundFrac {n : Int} (d : Nat) (hn : n ≠ 0) :
    numValue (roundFrac n d) = n.sign * pairValue (roundMagnitude n.natAbs d) :=
  (congrArg numValue (roundFrac_of_ne_zero d hn)).trans (numValue_pair _ _)

theorem roundFrac_zero (d : Nat) : roundFrac 0 d = Binary64.zero := if_pos rfl

theorem fraction_eq_sign_mul (n : Int) (d : Nat) : (n : ℚ) / d = n.sign * ((n.natAbs : ℚ) / d) := by
  have hn : (n : ℚ) = n.sign * n.natAbs := by
    rw [← Int.cast_natCast, ← Int.cast_mul, Int.sign_mul_natAbs]
  rw [← mul_div_assoc, ← hn]

theorem sign_eq_one_or_neg_one {n : Int} (hn : n ≠ 0) : (n.sign : ℚ) = 1 ∨ (n.sign : ℚ) = -1 := by
  rcases lt_or_gt_of_ne hn with h | h
  · simp [Int.sign_eq_neg_one_of_neg h]
  · simp [Int.sign_eq_one_of_pos h]

/-- R131: nearest among all values that fit a significand of 53 bits, ties to an even significand. -/
theorem roundFrac_nearest (n : Int) {d : Nat} (hd : 0 < d) {w : ℚ} (hw : Fits w) :
    |numValue (roundFrac n d) - n / d| ≤ |w - n / d| ∧
      (|numValue (roundFrac n d) - n / d| = |w - n / d| →
        w = numValue (roundFrac n d) ∨ (roundFrac n d).sig % 2 = 0) := by
  by_cases hn : n = 0
  · subst hn
    rw [roundFrac_zero, numValue_zero, Int.cast_zero, zero_div, sub_zero, abs_zero]
    exact ⟨abs_nonneg _, fun _ => .inr rfl⟩
  have hm : 0 < n.natAbs := Int.natAbs_pos.2 hn
  have hpar : (roundMagnitude n.natAbs d).1 % 2 = 0 → (roundFrac n d).sig % 2 = 0 := by
    intro h
    rw [roundFrac_of_ne_zero d hn]
    exact Int.emod_eq_zero_of_dvd (Dvd.dvd.mul_left (by omega) _)
  rw [numValue_roundFrac d hn, fraction_eq_sign_mul]
  rcases sign_eq_one_or_neg_one hn with hs | hs <;> rw [hs]
  · simp only [one_mul]
    obtain ⟨hle, htie⟩ := roundMagnitude_nearest hm hd hw
    exact ⟨hle, fun heq => (htie heq).imp_right hpar⟩
  · obtain ⟨hle, htie⟩ := roundMagnitude_nearest hm hd (fits_neg hw)
    have flip (a b : ℚ) : |-1 * a - -1 * b| = |a - b| := by rw [← mul_sub, abs_mul]; simp
    have flip' (b : ℚ) : |w - -1 * b| = |-w - b| := by rw [← abs_neg]; congr 1; ring
    rw [flip, flip']
    refine ⟨hle, fun heq => (htie heq).imp (fun h => ?_) hpar⟩
    linarith

/-- Settles O56: the numbers of the format are values that fit (`fits_numValue`), and each has one form (`canonical_inj`). -/
theorem roundingIsToNearestEven : Obligations.RoundingIsToNearestEven := by
  intro n d y hd hy
  obtain ⟨hle, htie⟩ := roundFrac_nearest n hd (fits_numValue hy)
  exact ⟨roundFrac_canonical n hd, hle, fun heq =>
    (htie heq).imp_left (canonical_inj hy (roundFrac_canonical n hd))⟩

/-- R131: a value that fits is delivered exactly. -/
theorem roundFrac_exact {n : Int} {d : Nat} (hd : 0 < d) (h : Fits ((n : ℚ) / d)) :
    numValue (roundFrac n d) = n / d := by
  have hle := (roundFrac_nearest n hd h).1
  rw [sub_self, abs_zero] at hle
  exact sub_eq_zero.1 (abs_nonpos_iff.1 hle)

/-- R151: the relative error of one rounding. -/
theorem roundFrac_error (n : Int) {d : Nat} (hd : 0 < d) :
    |numValue (roundFrac n d) - n / d| ≤ |(n : ℚ) / d| / 2 ^ 53 := by
  by_cases hn : n = 0
  · simp [hn, roundFrac_zero]
  have herr := roundMagnitude_error (Int.natAbs_pos.2 hn) hd
  have habs : |(n.sign : ℚ)| = 1 := by rcases sign_eq_one_or_neg_one hn with hs | hs <;> simp [hs]
  rw [numValue_roundFrac d hn, fraction_eq_sign_mul, ← mul_sub, abs_mul, abs_mul, habs, one_mul, one_mul]
  rwa [abs_of_nonneg (by positivity : (0 : ℚ) ≤ (n.natAbs : ℚ) / d)]

end Sys2Proof.Machine
end

section
/-! The arithmetic of the converter (41_convert R132 to R138): each operation is one rounding of the exact result, and from
that the errors and bounds of its sequences. -/

namespace Sys2Proof.Machine

/-! ### One rounding of an exact result -/

/-- `r` is the number delivered for the exact value `x`. -/
def RoundOf (x : ℚ) (r : Binary64) : Prop := ∃ (n : Int) (d : Nat), 0 < d ∧ x = n / d ∧ r = roundFrac n d

theorem RoundOf.canonical {x : ℚ} {r : Binary64} (h : RoundOf x r) : r.canonical = true := by
  obtain ⟨n, d, hd, -, rfl⟩ := h
  exact roundFrac_canonical n hd

theorem RoundOf.nearest {x : ℚ} {r y : Binary64} (h : RoundOf x r) (hy : y.canonical = true) :
    |numValue r - x| ≤ |numValue y - x| ∧ (|numValue r - x| = |numValue y - x| → y = r ∨ r.sig % 2 = 0) := by
  obtain ⟨n, d, hd, rfl, rfl⟩ := h
  exact (roundingIsToNearestEven n d y hd hy).2

theorem RoundOf.error {x : ℚ} {r : Binary64} (h : RoundOf x r) : |numValue r - x| ≤ |x| / 2 ^ 53 := by
  obtain ⟨n, d, hd, rfl, rfl⟩ := h
  exact roundFrac_error n hd

theorem RoundOf.exact {x : ℚ} {r : Binary64} (h : RoundOf x r) (hx : Fits x) : numValue r = x := by
  obtain ⟨n, d, hd, rfl, rfl⟩ := h
  exact roundFrac_exact hd hx

/-- A number of the format is its own rounding. -/
theorem RoundOf.eq_of_canonical {r y : Binary64} (h : RoundOf (numValue y) r) (hy : y.canonical = true) : r = y :=
  canonical_inj h.canonical hy (h.exact (fits_numValue hy))

theorem roundOf_lit (n : Nat) {d : Nat} (hd : 0 < d) : RoundOf ((n : ℚ) / d) (lit n d) := ⟨n, d, hd, rfl, rfl⟩

theorem roundOf_ofExact {x : Exact} (hd : 0 < x.den) : RoundOf x.value (ofExact x) := ⟨x.num, x.den, hd, rfl, rfl⟩

theorem denom_ne_zero (x : Binary64) : (denom x : ℚ) ≠ 0 := by exact_mod_cast (denom_pos x).ne'

theorem roundOf_numAdd (a b : Binary64) : RoundOf (numValue a + numValue b) (numAdd a b) := by
  refine ⟨_, _, Nat.mul_pos (denom_pos a) (denom_pos b), ?_, rfl⟩
  have ha := denom_ne_zero a
  have hb := denom_ne_zero b
  rw [numValue, numValue]
  push_cast
  field_simp

theorem roundOf_numMul (a b : Binary64) : RoundOf (numValue a * numValue b) (numMul a b) := by
  refine ⟨_, _, Nat.mul_pos (denom_pos a) (denom_pos b), ?_, rfl⟩
  rw [numValue, numValue]
  push_cast
  rw [div_mul_div_comm]

/-- The divisor's sign is moved to the numerator, so that the denominator is positive. -/
theorem numer_eq_sign_mul (b : Binary64) : (numer b : ℚ) = b.sig.sign * ((numer b).natAbs : ℚ) := by
  have hpow : (0 : Int) < ((2 ^ b.exp.toNat : Nat) : Int) := by positivity
  have hsign : (numer b).sign = b.sig.sign := by
    rw [numer, Int.sign_mul, Int.sign_eq_one_of_pos hpow, mul_one]
  rw [← hsign, ← Int.cast_natCast, ← Int.cast_mul, Int.sign_mul_natAbs]

theorem roundOf_numDiv {a b : Binary64} (hb : numValue b ≠ 0) : RoundOf (numValue a / numValue b) (numDiv a b) := by
  have hsig : b.sig ≠ 0 := mt (numValue_eq_zero_iff b).2 hb
  refine ⟨_, _, Nat.mul_pos (denom_pos a) (numer_natAbs_pos hsig), ?_, if_neg hsig⟩
  have hda := denom_ne_zero a
  have hdb := denom_ne_zero b
  have hnb : ((numer b).natAbs : ℚ) ≠ 0 := by exact_mod_cast (numer_natAbs_pos hsig).ne'
  rw [numValue, numValue, numer_eq_sign_mul b, Int.cast_mul, Int.cast_mul, Int.cast_natCast, Nat.cast_mul]
  generalize ((numer b).natAbs : ℚ) = n at *
  rcases sign_eq_one_or_neg_one hsig with hs | hs <;> rw [hs] <;> field_simp

/-- Settles O57: each operation is one rounding of its exact result. -/
theorem operationsRoundOnce : Obligations.OperationsRoundOnce := by
  intro a b y hy exact r h
  have hr : RoundOf exact r := by
    rcases h with ⟨rfl, rfl⟩ | ⟨rfl, rfl⟩ | ⟨hb, rfl, rfl⟩
    · exact roundOf_numAdd a b
    · exact roundOf_numMul a b
    · exact roundOf_numDiv hb
  exact ⟨hr.canonical, hr.nearest hy⟩

/-! ### The unpacker's values (R134) -/

theorem fits_div_two_pow {z : Int} (j : Nat) (hz : |z| < 2 ^ 53) : Fits ((z : ℚ) / 2 ^ j) :=
  ⟨z, -j, hz, by rw [zpow_neg, zpow_natCast, div_eq_mul_inv]⟩

/-- A word of up to 53 bits over a power of two needs no rounding. -/
theorem numValue_ofExact {x : Exact} (j : Nat) (hd : x.den = 2 ^ j) (hn : |x.num| < 2 ^ 53) :
    numValue (ofExact x) = x.value := by
  have hpos : 0 < x.den := by rw [hd]; positivity
  refine (roundOf_ofExact hpos).exact ?_
  rw [Exact.value, hd]
  push_cast
  exact fits_div_two_pow j hn

theorem numValue_decP (m c l : Byte) : numValue (ofExact (decP m c l)) = (decP m c l).value := by
  refine numValue_ofExact 14 (by rfl) ?_
  have h := (asm32 m c l).isLt
  simp only [decP, Nat.abs_cast]
  omega

theorem toInt_bounds {w : Nat} (x : BitVec (w + 1)) : -2 ^ w ≤ x.toInt ∧ x.toInt < 2 ^ w := by
  have hlo := BitVec.le_toInt x
  have hhi := BitVec.toInt_lt (x := x)
  exact ⟨by simpa using hlo, by simpa using hhi⟩

theorem numValue_decA (m c l : Byte) : numValue (ofExact (decA m c l)) = (decA m c l).value := by
  refine numValue_ofExact 16 (by rfl) ?_
  obtain ⟨hlo, hhi⟩ := toInt_bounds (w := 31) (asm32 m c l)
  simp only [decA, abs_lt]
  omega

theorem numValue_decT (t u : Byte) : numValue (ofExact (decT t u)) = (decT t u).value := by
  refine numValue_ofExact 8 (by rfl) ?_
  obtain ⟨hlo, hhi⟩ := toInt_bounds (w := 7) t
  have hu := u.isLt
  simp only [decT, abs_lt]
  omega

/-- Settles O55. -/
theorem exactValuesEnterWithoutError : Obligations.ExactValuesEnterWithoutError :=
  fun m c l t u => ⟨numValue_decP m c l, numValue_decA m c l, numValue_decT t u⟩

/-! ### The pressure record (R135, R151) -/

/-- R133: a whole number below `2 ^ 53` is a literal without error. -/
theorem numValue_lit_nat {n : Nat} (hn : n < 2 ^ 53) : numValue (lit n 1) = n := by
  have h := (roundOf_lit n one_pos).exact
  rw [Nat.cast_one, div_one] at h
  refine h ⟨n, 0, ?_, by simp⟩
  rw [Nat.abs_cast]
  exact_mod_cast hn

theorem decP_value_nonneg (m c l : Byte) : 0 ≤ (decP m c l).value := by
  rw [decP_value]
  positivity

/-- R151: one division of the decoded pascals by a whole constant. -/
theorem pressure_slot_error (m c l : Byte) {n : Nat} (h0 : 0 < n) (hn : n < 2 ^ 53) :
    |numValue (numDiv (ofExact (decP m c l)) (lit n 1)) - (decP m c l).value / n| ≤ (decP m c l).value / n / 2 ^ 53 := by
  have hlit := numValue_lit_nat hn
  have hb : numValue (lit n 1) ≠ 0 := by rw [hlit]; exact_mod_cast h0.ne'
  have herr := (roundOf_numDiv (a := ofExact (decP m c l)) hb).error
  have hnonneg : 0 ≤ (decP m c l).value / n := div_nonneg (decP_value_nonneg m c l) (Nat.cast_nonneg n)
  rwa [numValue_decP, hlit, abs_of_nonneg hnonneg] at herr

/-- Settles O58. -/
theorem pressureRecordErrorIsBounded : Obligations.PressureRecordErrorIsBounded :=
  fun m c l => ⟨by exact_mod_cast pressure_slot_error m c l (n := 100) (by norm_num) (by norm_num),
    by exact_mod_cast pressure_slot_error m c l (n := 3386) (by norm_num) (by norm_num),
    by exact_mod_cast pressure_slot_error m c l (n := 6895) (by norm_num) (by norm_num)⟩

/-! ### The barometric formula (R138) -/

/-- R136: altitudes of 16 signed bits. -/
theorem abs_decA_value_le (m c l : Byte) : |(decA m c l).value| ≤ 32768 := by
  obtain ⟨hlo, hhi⟩ := toInt_bounds (w := 23) (m ++ c ++ l : BitVec 24)
  have hlo' : (-2 ^ 23 : ℚ) ≤ ((m ++ c ++ l : BitVec 24).toInt : ℚ) := by exact_mod_cast hlo
  have hhi' : ((m ++ c ++ l : BitVec 24).toInt : ℚ) ≤ 2 ^ 23 := by exact_mod_cast hhi.le
  rw [decA_value_word, abs_le]
  constructor <;> linarith

/-- R137: temperatures of 8 signed bits and a fraction. -/
theorem decT_value_ge (t u : Byte) : -128 ≤ (decT t u).value := by
  have hlo : (-2 ^ 7 : ℚ) ≤ (t.toInt : ℚ) := by exact_mod_cast (toInt_bounds (w := 7) t).1
  have hu : (0 : ℚ) ≤ (u.toNat : ℚ) / 256 := by positivity
  rw [decT_value]
  linarith

/-- One rounding moves a value by less than a millionth of it. -/
theorem RoundOf.within {x : ℚ} {r : Binary64} (h : RoundOf x r) : |numValue r - x| ≤ |x| / 10 ^ 6 :=
  h.error.trans (div_le_div_of_nonneg_left (abs_nonneg x) (by norm_num) (by norm_num))

theorem RoundOf.lower {x : ℚ} {r : Binary64} (h : RoundOf x r) (hx : 0 ≤ x) : x - x / 10 ^ 6 ≤ numValue r := by
  have hw := abs_le.1 h.within
  rw [abs_of_nonneg hx] at hw
  linarith [hw.1]

theorem RoundOf.upper {x : ℚ} {r : Binary64} (h : RoundOf x r) : |numValue r| ≤ |x| + |x| / 10 ^ 6 := by
  have htri := abs_sub_abs_le_abs_sub (numValue r) x
  linarith [h.within]

theorem kelvin_ge (t u : Byte) : 145.148 ≤ numValue (numAdd (ofExact (decT t u)) kKelvin) := by
  have hk := (roundOf_lit 27315 (d := 100) (by norm_num)).lower (by positivity)
  have hc := decT_value_ge t u
  have hsum := roundOf_numAdd (ofExact (decT t u)) kKelvin
  rw [numValue_decT] at hsum
  norm_num at hk
  have hx : 145.1497 ≤ (decT t u).value + numValue kKelvin := by
    unfold kKelvin
    norm_num
    linarith
  have hlow := hsum.lower (by linarith)
  norm_num at hlow hx ⊢
  linarith

/-- The denominator of R138 is far from 0. -/
theorem slpDenominator_ge (t u : Byte) :
    41664 ≤ numValue (numMul kRd (numAdd (ofExact (decT t u)) kKelvin)) := by
  have hk := kelvin_ge t u
  have hr := (roundOf_lit 28705 (d := 100) (by norm_num)).lower (by positivity)
  have hprod := roundOf_numMul kRd (numAdd (ofExact (decT t u)) kKelvin)
  have hr' : 287.0497 ≤ numValue kRd := by
    unfold kRd
    norm_num at hr ⊢
    linarith
  have hx : (287.0497 : ℚ) * 145.148 ≤ numValue kRd * numValue (numAdd (ofExact (decT t u)) kKelvin) := by
    gcongr
  have hlow := hprod.lower (le_trans (by norm_num) hx)
  norm_num at hlow hx ⊢
  linarith

/-- The numerator of R138. -/
theorem abs_slpNumerator_le (m c l : Byte) : |numValue (numMul kG (ofExact (decA m c l)))| ≤ 321347 := by
  have ha := abs_decA_value_le m c l
  have hg := (roundOf_lit 980665 (d := 100000) (by norm_num)).upper
  have hprod := (roundOf_numMul kG (ofExact (decA m c l))).upper
  rw [numValue_decA, abs_mul] at hprod
  have hg' : |numValue kG| ≤ 9.80667 := by
    unfold kG
    norm_num [abs_of_pos] at hg ⊢
    linarith
  have hx : |numValue kG| * |(decA m c l).value| ≤ 9.80667 * 32768 := by gcongr
  norm_num at hprod hx ⊢
  linarith

/-- Settles O59: Kelvin is at least 145.148, the denominator at least 41664 and the numerator at most 321347. -/
theorem slpExponentIsBounded : Obligations.SlpExponentIsBounded := by
  intro t u m c l
  have hk := kelvin_ge t u
  have hd := slpDenominator_ge t u
  have hn := abs_slpNumerator_le m c l
  refine ⟨lt_of_lt_of_le (by norm_num) hk, (lt_of_lt_of_le (by norm_num) hd).ne', ?_⟩
  have hq := (roundOf_numDiv (a := numMul kG (ofExact (decA m c l)))
    (lt_of_lt_of_le (by norm_num) hd).ne').upper
  have hx : |numValue (numMul kG (ofExact (decA m c l))) / numValue (numMul kRd (numAdd (ofExact (decT t u)) kKelvin))| ≤
      321347 / 41664 := by
    rw [abs_div, abs_of_nonneg (le_trans (by norm_num) hd)]
    gcongr
  unfold slpExponent
  norm_num at hq hx ⊢
  linarith

/-! ### Corner cases (R138) -/

theorem numMul_zero_left (b : Binary64) : numMul Binary64.zero b = Binary64.zero := by
  have hz : numer Binary64.zero * numer b = 0 := zero_mul _
  rw [numMul, hz, roundFrac_zero]

theorem numMul_zero_right (a : Binary64) : numMul a Binary64.zero = Binary64.zero := by
  have hz : numer a * numer Binary64.zero = 0 := mul_zero _
  rw [numMul, hz, roundFrac_zero]

theorem numDiv_zero_left {b : Binary64} (hb : numValue b ≠ 0) : numDiv Binary64.zero b = Binary64.zero := by
  have h := roundOf_numDiv (a := Binary64.zero) hb
  rw [numValue_zero, zero_div, ← numValue_zero] at h
  exact h.eq_of_canonical rfl

theorem numMul_one {a : Binary64} (ha : a.canonical = true) : numMul a (lit 1 1) = a := by
  have h := roundOf_numMul a (lit 1 1)
  rw [numValue_lit_nat (by norm_num), Nat.cast_one, mul_one] at h
  exact h.eq_of_canonical ha

/-- At altitude 0 the exponent is 0, whatever the temperature. -/
theorem slpExponent_altitude_zero (t u : Byte) :
    slpExponent (ofExact (decT t u)) (ofExact (decA 0#8 0#8 0#8)) = Binary64.zero := by
  have ha : ofExact (decA 0#8 0#8 0#8) = Binary64.zero := roundFrac_zero 65536
  rw [slpExponent, ha, numMul_zero_right]
  exact numDiv_zero_left (lt_of_lt_of_le (by norm_num) (slpDenominator_ge t u)).ne'

/-- Settles O60. -/
theorem slpCornerCases : Obligations.SlpCornerCases := by
  refine ⟨fun ex pm t u h0 hpm => ?_, fun ex c a => numMul_zero_left _⟩
  rw [slpWith, slpExponent_altitude_zero, h0, numMul_one hpm]

end Sys2Proof.Machine
end

section
/-! Runs of whole commands (42_operations R165, R170 to R179): one lemma per step of a cycle, the poll loop by induction over
the STATUS bytes, the cycle from them, and the commands from the cycle. -/

namespace Sys2Proof.Machine

/-- `k` steps lead from `s` to `t`. -/
def Runs (k : Nat) (s t : State) : Prop := Host.Core.run core k s = .next t

theorem Runs.refl (s : State) : Runs 0 s s := Laws.run_zero s

theorem Runs.one {s t : State} (h : step s = .next t) : Runs 1 s t := Laws.run_succ 0 h

theorem Runs.trans {s t u : State} {j k : Nat} (h : Runs j s t) (h' : Runs k t u) : Runs (j + k) s u :=
  (Laws.run_add j k h).trans h'

theorem Runs.step {s t u : State} {k : Nat} (h : Runs k s t) (h' : step t = .next u) : Runs (k + 1) s u :=
  h.trans (.one h')

/-! ### One step each -/

/-- With the host at rest, the step in a state that issues a transaction is that transaction's row. -/
theorem step_of_request {s : State} {i : Instr} {x : Txn} (hh : s.host = []) (hx : s.request = some x)
    (hp : (i, x) ∈ transactionRows s.devAddr) : step s = exec i s :=
  (step_of_host_nil hh).trans (blockStep_of_request hx hp)

theorem step_setUp {s : State} {w : List Byte} {rest : List Answer} (hh : s.host = []) (hst : s.st = .configWritten)
    (hsub : s.sub = false) (ha : s.answers = .ok w :: rest) :
    step s = .next { s with
      sub := true, answers := rest, outstanding := none
      trace := s.trace ++ [.answered (.wr s.devAddr 0x13#8 0x07#8) (.ok [])] } :=
  (step_of_request (i := .wrPtcfg s.devAddr) hh (request_ptcfg hst hsub) (by simp [transactionRows])).trans
    ((firstSetupWrite s.devAddr s rest hst hsub rfl).1 w ha)

/-- The row and the updates of the running cycle's mode write. -/
theorem step_configured {s : State} {c : Cycle} {w : List Byte} {rest : List Answer} (hh : s.host = [])
    (hst : s.st = .configWritten) (hsub : s.sub = true) (hc : s.cycle = some c) (ha : s.answers = .ok w :: rest) :
    step s = .next { s with
      sub := false, pollCnt := 0, st := .polling, answers := rest, outstanding := none
      trace := s.trace ++ [.answered (.wr s.devAddr 0x26#8 c.ctrlPat) (.ok [])] } := by
  have hx := request_ctrl hst hsub hc
  obtain ⟨i, hp, hi⟩ : ∃ i, (i, .wr s.devAddr 0x26#8 c.ctrlPat) ∈ transactionRows s.devAddr ∧
      exec i s = s.transact (.wr s.devAddr 0x26#8 c.ctrlPat) State.afterCtrl := by
    rcases cycle_cases hc with ⟨-, -, rfl⟩ | ⟨-, -, rfl⟩ | ⟨-, -, rfl⟩ | ⟨-, -, rfl⟩ | ⟨-, -, rfl⟩
    case inr.inl | inr.inr.inr.inr => exact ⟨.wrCtrlAlt s.devAddr, by simp [transactionRows], rfl⟩
    all_goals exact ⟨.wrCtrlBaro s.devAddr, by simp [transactionRows], rfl⟩
  exact (step_of_request hh hx hp).trans (hi.trans (transact_answered _ hx (answerIs_write_ok _ _ _ ha)))

theorem step_status {s : State} {b : Byte} {rest : List Answer} (hh : s.host = []) (hst : s.st = .polling)
    (ha : s.answers = .ok [b] :: rest) :
    step s = .next ((s.answered (.rd s.devAddr 0x00#8 1#8) (.ok [b]) rest).onStatus Config.pollMax b) :=
  (step_of_request (i := .rdStatus s.devAddr) hh (request_status hst) (by simp [transactionRows])).trans
    (exec_rdStatus_answered hst (answerIs_read_ok _ _ rfl ha))

theorem step_loaded {s : State} {c : Cycle} {bytes : List Byte} {rest : List Answer} (hh : s.host = [])
    (hst : s.st = .dataReady) (hc : s.cycle = some c) (hl : bytes.length = c.count.toNat)
    (ha : s.answers = .ok bytes :: rest) :
    step s = .next { (s.answered (.rd s.devAddr c.start c.count) (.ok bytes) rest).loadRaw bytes with st := .decoded } := by
  have hx := request_burst hst hc
  obtain ⟨i, hp, hi⟩ : ∃ i, (i, .rd s.devAddr c.start c.count) ∈ transactionRows s.devAddr ∧
      exec i s = s.transact (.rd s.devAddr c.start c.count) (State.afterBurst c.start) := by
    rcases cycle_cases hc with ⟨-, -, rfl⟩ | ⟨-, -, rfl⟩ | ⟨-, -, rfl⟩ | ⟨-, -, rfl⟩ | ⟨-, -, rfl⟩
    case inr.inr.inl => exact ⟨.rdT2 s.devAddr, by simp [transactionRows], rfl⟩
    case inr.inr.inr.inl => exact ⟨.rdPt5 s.devAddr, by simp [transactionRows], rfl⟩
    all_goals exact ⟨.rdP3 s.devAddr, by simp [transactionRows], rfl⟩
  exact (step_of_request hh hx hp).trans (hi.trans (transact_answered _ hx (answerIs_read_ok _ _ hl ha)))

theorem step_decoded {s : State} {c : Cycle} (hh : s.host = []) (hst : s.st = .decoded) (hc : s.cycle = some c) :
    step s = .next (s.runSample c.layout) :=
  (step_of_host_nil hh).trans (blockStep_decoded hst hc)

/-! ### The poll loop (R165) -/

/-- Below a bound that still allows `n` reads, no read spends the budget. -/
theorem budgetSpent_of_allows {bound : PollBound} {i n : Nat} (h : bound.allows n = true) (hi : i < n) :
    budgetSpent bound i = false := by
  cases bound with
  | inf => rfl
  | reads m pos =>
    simp only [PollBound.allows, decide_eq_true_eq] at h
    simp only [budgetSpent, beq_eq_false_iff_ne]
    omega

/-- The state of the loop after more reads with bit 3 clear. -/
def State.polled (s : State) (clear : List Byte) (rest : List Answer) (out : Option Txn) : State :=
  { s with
    pollCnt := s.pollCnt + clear.length, answers := rest, outstanding := out
    trace := s.trace ++ statusReads s.devAddr clear }

theorem polled_nil (s : State) : s.polled [] s.answers s.outstanding = s := by
  simp [State.polled, statusReads]

theorem polled_cons (s : State) (b : Byte) (clear : List Byte) (rest rest' : List Answer) (out out' : Option Txn) :
    (s.polled [b] rest' out').polled clear rest out = s.polled (b :: clear) rest out := by
  simp [State.polled, statusReads, Nat.add_assoc, Nat.add_comm 1]

/-- One read with bit 3 clear that does not spend the budget. -/
theorem step_status_clear {s : State} {b : Byte} {rest : List Answer} (hh : s.host = []) (hst : s.st = .polling)
    (hb : b &&& 0x08#8 = 0#8) (hs : budgetSpent Config.pollMax s.pollCnt = false) (ha : s.answers = .ok [b] :: rest) :
    step s = .next (s.polled [b] rest none) :=
  (step_status hh hst ha).trans
    (congrArg _ (onStatus_again (s.answered _ _ rest) ((rdy_eq_false_iff b).2 hb) hs))

/-- STATUS reads with bit 3 clear, as many as the budget allows: the loop goes on, and only counts. Which transaction is
outstanding after no read at all is the one before. -/
theorem runs_clear_reads (clear : List Byte) {s : State} {rest : List Answer} (hh : s.host = [])
    (hst : s.st = .polling) (hclear : ∀ x ∈ clear, x &&& 0x08#8 = 0#8)
    (hmax : Config.pollMax.allows (s.pollCnt + clear.length) = true) (ha : s.answers = statusAnswers clear ++ rest) :
    ∃ out, Runs clear.length s (s.polled clear rest out) := by
  induction clear generalizing s with
  | nil =>
    have hrest : s.answers = rest := ha
    subst hrest
    exact ⟨s.outstanding, (polled_nil s).symm ▸ .refl s⟩
  | cons b clear ih =>
    have hs : budgetSpent Config.pollMax s.pollCnt = false := budgetSpent_of_allows hmax (by simp)
    have hstep := step_status_clear hh hst (hclear b List.mem_cons_self) hs ha
    have hmax' : Config.pollMax.allows ((s.pollCnt + 1) + clear.length) = true := by
      simpa [Nat.add_assoc, Nat.add_comm 1] using hmax
    obtain ⟨out, hrun⟩ := ih (s := s.polled [b] (statusAnswers clear ++ rest) none) hh hst
      (fun x hx => hclear x (List.mem_cons_of_mem b hx)) hmax' rfl
    refine ⟨out, ?_⟩
    rw [polled_cons] at hrun
    rw [List.length_cons, Nat.add_comm]
    exact (Runs.one hstep).trans hrun

/-- The loop up to its last read: that read is answered after all the others. -/
theorem runs_to_last_read {s : State} {clear : List Byte} {b : Byte} {rest : List Answer} (hh : s.host = [])
    (hst : s.st = .polling) (hcnt : s.pollCnt = 0) (hclear : ∀ x ∈ clear, x &&& 0x08#8 = 0#8)
    (hmax : Config.pollMax.allows clear.length = true) (ha : s.answers = statusAnswers clear ++ .ok [b] :: rest) :
    Runs (clear.length + 1) s (State.onStatus Config.pollMax { s with
      pollCnt := clear.length, answers := rest, outstanding := none
      trace := s.trace ++ statusReads s.devAddr (clear ++ [b]) } b) := by
  have hmax' : Config.pollMax.allows (s.pollCnt + clear.length) = true := by rwa [hcnt, Nat.zero_add]
  obtain ⟨out, hrun⟩ := runs_clear_reads clear hh hst hclear hmax' ha
  have hlast := hrun.step (step_status (s := s.polled clear (.ok [b] :: rest) out) hh hst rfl)
  have htrace : s.trace ++ statusReads s.devAddr clear ++ [.answered (.rd s.devAddr 0x00#8 1#8) (.ok [b])] =
      s.trace ++ statusReads s.devAddr (clear ++ [b]) := by simp [statusReads]
  rw [State.answered, State.polled, hcnt, Nat.zero_add, htrace] at hlast
  exact hlast

/-- The loop ends with the first byte that has bit 3 set. -/
theorem runs_poll_ready {s : State} {clear : List Byte} {b : Byte} {rest : List Answer} (hh : s.host = [])
    (hst : s.st = .polling) (hcnt : s.pollCnt = 0) (hclear : ∀ x ∈ clear, x &&& 0x08#8 = 0#8) (hb : b &&& 0x08#8 ≠ 0#8)
    (hmax : Config.pollMax.allows clear.length = true) (ha : s.answers = statusAnswers clear ++ .ok [b] :: rest) :
    Runs (clear.length + 1) s { s with
      st := .dataReady, pollCnt := clear.length, answers := rest, outstanding := none
      trace := s.trace ++ statusReads s.devAddr (clear ++ [b]) } := by
  have hrun := runs_to_last_read hh hst hcnt hclear hmax ha
  rwa [onStatus_ready _ _ ((rdy_eq_true_iff b).2 hb)] at hrun

/-- Settles O45. -/
theorem pollLoopEndsWhenReady : Obligations.PollLoopEndsWhenReady :=
  fun _ _ _ _ hh hst hcnt hclear hb hmax ha => runs_poll_ready hh hst hcnt hclear hb hmax ha

/-- Settles O46: all reads but the last go on with the loop; the last is counted, or spends a bound of that many. -/
theorem pollLoopEndsOrTimesOut : Obligations.PollLoopEndsOrTimesOut := by
  intro s clear b rest hh hst hcnt hclear hb ha
  have hrdy := (rdy_eq_false_iff b).2 hb
  split
  next hinf =>
    have hrun := runs_to_last_read hh hst hcnt hclear (by rw [hinf]; rfl) ha
    rw [hinf, onStatus_again _ hrdy rfl] at hrun
    exact ⟨_, hrun, hst, rfl⟩
  next n pos hbound =>
    rintro rfl
    have hrun := runs_to_last_read hh hst hcnt hclear (by simp [hbound, PollBound.allows]) ha
    rw [onStatus_spent _ hrdy (by simp [hbound, budgetSpent])] at hrun
    exact ⟨_, hrun, rfl, rfl, rfl, rfl, rfl, rfl, rfl, rfl⟩

/-! ### One cycle, from the first setup write to the sample (R163 to R166) -/

/-- The entries one cycle leaves in the trace. -/
def cycleTrace (d : Byte) (c : Cycle) (statuses sample : List Byte) : List Exchange :=
  [.answered (.wr d 0x13#8 0x07#8) (.ok []), .answered (.wr d 0x26#8 c.ctrlPat) (.ok [])] ++ statusReads d statuses ++
    [.answered (.rd d c.start c.count) (.ok sample)]

/-- `s` after a cycle whose sample is in RAW: `count` is POLLCNT and `k` the choices used up. -/
def State.cycled (s : State) (c : Cycle) (statuses sample : List Byte) (raw : RawBuffer) (rest : List Answer)
    (count k : Nat) : State :=
  { s with
    st := .decoded, sub := false, pollCnt := count, raw := raw, answers := rest, outstanding := none
    trace := s.trace ++ cycleTrace s.devAddr c statuses sample, free := k }

/-- A cycle in which everything is answered well: both writes, `clear` and then a ready byte, the sample. RAW holds the
sample, and nothing outside the cycle's own registers has changed. -/
theorem runs_cycle {s : State} {c : Cycle} {b : Byte} {w1 w2 clear sample : List Byte} {rest : List Answer}
    (hh : s.host = []) (hst : s.st = .configWritten) (hsub : s.sub = false) (hc : s.cycle = some c)
    (hclear : ∀ x ∈ clear, x &&& 0x08#8 = 0#8) (hb : b &&& 0x08#8 ≠ 0#8)
    (hmax : Config.pollMax.allows clear.length = true) (hl : sample.length = c.count.toNat) (hl5 : sample.length ≤ 5)
    (ha : s.answers = .ok w1 :: .ok w2 :: (statusAnswers clear ++ .ok [b] :: .ok sample :: rest)) :
    ∃ raw k, raw.list.take sample.length = sample ∧
      Runs (clear.length + 4) s (s.cycled c (clear ++ [b]) sample raw rest clear.length k) := by
  have h1 := step_setUp hh hst hsub ha
  have h2 := step_configured (s := { s with
      sub := true, answers := .ok w2 :: (statusAnswers clear ++ .ok [b] :: .ok sample :: rest), outstanding := none
      trace := s.trace ++ [.answered (.wr s.devAddr 0x13#8 0x07#8) (.ok [])] }) hh hst rfl hc rfl
  have h3 := runs_poll_ready (s := { s with
      sub := false, pollCnt := 0, st := .polling, outstanding := none
      answers := statusAnswers clear ++ .ok [b] :: .ok sample :: rest
      trace := s.trace ++ [.answered (.wr s.devAddr 0x13#8 0x07#8) (.ok [])] ++
        [.answered (.wr s.devAddr 0x26#8 c.ctrlPat) (.ok [])] }) hh rfl rfl hclear hb hmax rfl
  have h4 := step_loaded (s := { s with
      sub := false, pollCnt := clear.length, st := .dataReady, outstanding := none, answers := .ok sample :: rest
      trace := s.trace ++ [.answered (.wr s.devAddr 0x13#8 0x07#8) (.ok [])] ++
        [.answered (.wr s.devAddr 0x26#8 c.ctrlPat) (.ok [])] ++ statusReads s.devAddr (clear ++ [b]) })
    hh rfl hc hl rfl
  have hrun := (((Runs.one h1).step h2).trans h3).step h4
  refine ⟨_, s.free + 1, loadRaw_take s hl5, ?_⟩
  have hk : 1 + 1 + (clear.length + 1) + 1 = clear.length + 4 := by omega
  have htrace : s.trace ++ [.answered (.wr s.devAddr 0x13#8 0x07#8) (.ok [])] ++
      [.answered (.wr s.devAddr 0x26#8 c.ctrlPat) (.ok [])] ++ statusReads s.devAddr (clear ++ [b]) ++
      [.answered (.rd s.devAddr c.start c.count) (.ok sample)] =
      s.trace ++ cycleTrace s.devAddr c (clear ++ [b]) sample := by simp [cycleTrace]
  rw [State.cycled, ← hk, ← htrace]
  exact hrun

end Sys2Proof.Machine
end

section
/-! Whole commands from the command port (42_operations R170 to R179): accepted, run cycle by cycle, and what the host and the
sensor hold after them. -/

namespace Sys2Proof.Machine

/-! ### CONSTRUCT and STANDBY -/

/-- A command of a constructed block accepted and begun in the state `target` (R161 cases 4 and 5). -/
def State.begun (s : State) (op : Byte) (target : SeqState) : State := { s.accept op with busy := true, st := target }

theorem step_begins {s : State} {a op : Byte} (hh : s.host = []) (hst : s.st = .idle) (hb : s.busy = false)
    (hid : s.identOk = true) (hp : s.cmdPort = some (a ++ op)) (hop : namedOpcode op ≠ false) (h1 : op ≠ 0x01#8) :
    step s = .next (s.begun op (if op = 0x06#8 then .single else .configWritten)) := by
  rw [step_accepts hh hst hb hp, dispatch_beginIn _ hop h1]
  exact congrArg _ (beginIn_constructed (t := s.accept op) _ hid)

/-- CONSTRUCT accepted, before its identity read (R170). -/
def State.constructing (s : State) (a : Byte) : State :=
  { s.accept 0x01#8 with devAddr := a, identOk := false, busy := true, st := .single }

/-- R170: CONSTRUCT's two steps, up to the byte the device answers with. -/
theorem runs_construct {s : State} {a b : Byte} {rest : List Answer} (hh : s.host = []) (hst : s.st = .idle)
    (hb : s.busy = false) (hp : s.cmdPort = some (a ++ 0x01#8)) (ha : s.answers = .ok [b] :: rest) :
    Runs 2 s (((s.constructing a).answered (.rd a 0x0C#8 1#8) (.ok [b]) rest).onIdentity b) := by
  have hx : (s.constructing a).request = some (.rd a 0x0C#8 1#8) := request_identity rfl rfl
  have haccept : step s = .next (s.constructing a) := step_accepts hh hst hb hp
  have hread : step (s.constructing a) = exec (.rdWhoami a) (s.constructing a) :=
    step_of_request hh hx (by simp [transactionRows, State.constructing])
  exact (Runs.one haccept).step (hread.trans (transact_answered _ hx (answerIs_read_ok _ _ rfl ha)))

/-- Settles O44: the identity byte decides CONSTRUCT (R168), and reading changes no sensor register; STANDBY's write leaves
its byte. -/
theorem constructAndStandbyRun : Obligations.ConstructAndStandbyRun := by
  intro s a rest hh hst hb
  constructor
  · intro b hp ha
    have hrun := runs_construct hh hst hb hp ha
    by_cases hid : b = 0xC4#8
    · subst hid
      exact ⟨_, hrun, rfl, rfl, rfl, rfl, rfl, rfl, rfl, fun d reg => writtenByte_of_other rfl nofun, rfl, rfl⟩
    · rw [onIdentity_fail _ hid] at hrun
      refine ⟨_, hrun, rfl, rfl, rfl, rfl, rfl, rfl, rfl, fun d reg => writtenByte_of_other rfl nofun, ?_⟩
      rw [if_neg hid]
      exact ⟨rfl, rfl⟩
  · intro bytes hid hp ha
    have hbegin : step s = .next (s.begun 0x06#8 .single) := step_begins hh hst hb hid hp (by decide) (by decide)
    have hx : (s.begun 0x06#8 .single).request = some (.wr s.devAddr 0x26#8 0x38#8) := request_standby rfl rfl
    have hwrite : step (s.begun 0x06#8 .single) = exec (.wrCtrlStby s.devAddr) (s.begun 0x06#8 .single) :=
      step_of_request hh hx (by simp [transactionRows, State.begun])
    have hdone := hwrite.trans (transact_answered _ hx (answerIs_write_ok _ _ _ ha))
    exact ⟨_, (Runs.one hbegin).step hdone, rfl, rfl, rfl, hid, rfl, rfl, rfl, writtenByte_of_write rfl⟩

/-! ### What a cycle leaves in the sensor (R178) -/

theorem read_foldl_other {entries : List Exchange} {d reg : Byte} (h : ∀ e ∈ entries, ∀ v, e.txn ≠ .wr d reg v)
    (m : Memory) : (entries.foldl Memory.apply m).read (cellOf d reg) = m.read (cellOf d reg) := by
  induction entries generalizing m with
  | nil => rfl
  | cons e rest ih =>
    rw [List.foldl_cons, ih fun e' he' => h e' (List.mem_cons_of_mem e he')]
    exact read_apply_other m (h e List.mem_cons_self)

/-- The last acknowledged write of a register is what it holds. -/
theorem writtenByte_of_last_write {t : State} {before later : List Exchange} {d reg v : Byte} {r : List Byte}
    (h : t.trace = before ++ .answered (.wr d reg v) (.ok r) :: later)
    (hlater : ∀ e ∈ later, ∀ v', e.txn ≠ .wr d reg v') : t.writtenByte d reg = some v := by
  rw [State.writtenByte, State.written, h, List.foldl_append, List.foldl_cons, read_foldl_other hlater]
  exact Memory.read_write_same _ _ v

theorem statusReads_no_write {d d' reg v : Byte} {bytes : List Byte} {e : Exchange} (h : e ∈ statusReads d bytes) :
    e.txn ≠ .wr d' reg v := by
  obtain ⟨b, -, rfl⟩ := List.mem_map.1 h
  nofun

/-- R178: after a cycle PT_DATA_CFG holds 0x07 and CTRL_REG1 the cycle's mode. -/
theorem written_of_cycle {t : State} {before : List Exchange} {d : Byte} {c : Cycle} {statuses sample : List Byte}
    (h : t.trace = before ++ cycleTrace d c statuses sample) :
    t.writtenByte d 0x13#8 = some 0x07#8 ∧ t.writtenByte d 0x26#8 = some c.ctrlPat := by
  constructor
  · refine writtenByte_of_last_write (before := before) (r := [])
      (later := .answered (.wr d 0x26#8 c.ctrlPat) (.ok []) :: (statusReads d statuses ++
        [.answered (.rd d c.start c.count) (.ok sample)])) (h.trans (by simp [cycleTrace])) ?_
    intro e he v
    simp only [List.mem_append, List.mem_cons, List.not_mem_nil, or_false] at he
    rcases he with rfl | he | rfl
    · simp [Exchange.txn]
    · exact statusReads_no_write he
    · nofun
  · refine writtenByte_of_last_write (before := before ++ [.answered (.wr d 0x13#8 0x07#8) (.ok [])]) (r := [])
      (later := statusReads d statuses ++ [.answered (.rd d c.start c.count) (.ok sample)])
      (h.trans (by simp [cycleTrace])) ?_
    intro e he v
    simp only [List.mem_append, List.mem_cons, List.not_mem_nil, or_false] at he
    rcases he with he | rfl
    · exact statusReads_no_write he
    · nofun

/-! ### The acquisition commands -/

/-- R171 to R174: an acquisition command from the port to the sample of its first cycle. -/
theorem runs_acquisition {s : State} {a op b : Byte} {c : Cycle} {w1 w2 clear sample : List Byte} {rest : List Answer}
    (hh : s.host = []) (hst : s.st = .idle) (hb : s.busy = false) (hid : s.identOk = true)
    (hp : s.cmdPort = some (a ++ op)) (hop : acquisitionOpcode op = true) (hc : cycleOf op false = some c)
    (hclear : ∀ x ∈ clear, x &&& 0x08#8 = 0#8) (hready : b &&& 0x08#8 ≠ 0#8)
    (hmax : Config.pollMax.allows clear.length = true) (hl : sample.length = c.count.toNat) (hl5 : sample.length ≤ 5)
    (ha : s.answers = .ok w1 :: .ok w2 :: (statusAnswers clear ++ .ok [b] :: .ok sample :: rest)) :
    ∃ raw k, raw.list.take sample.length = sample ∧
      Runs (clear.length + 5) s
        ((s.begun op .configWritten).cycled c (clear ++ [b]) sample raw rest clear.length k) := by
  obtain ⟨hnamed, h1, h6⟩ : namedOpcode op ≠ false ∧ op ≠ 0x01#8 ∧ op ≠ 0x06#8 := by
    rcases acquisitionOpcode_cases hop with rfl | rfl | rfl | rfl <;> decide
  have hbegin := step_begins hh hst hb hid hp hnamed h1
  rw [if_neg h6] at hbegin
  obtain ⟨raw, k, hraw, hrun⟩ := runs_cycle (s := s.begun op .configWritten) hh rfl rfl hc
    hclear hready hmax hl hl5 ha
  have hk : 1 + (clear.length + 4) = clear.length + 5 := by omega
  exact ⟨raw, k, hraw, hk ▸ (Runs.one hbegin).trans hrun⟩

/-- R167: the Decoded step of the layout `p` on the sample delivers the record `out`, whatever else the state holds. -/
def DeliversRecord (op : Byte) (p : Place) (sample : List Byte) (out : CommandOutcome) : Prop :=
  ∀ s : State, s.opc = op → s.raw.list.take sample.length = sample →
    ∃ k x0 x1 x2 n, s.runSample p = State.finish { s with resKind := k, v0 := x0, v1 := x1, v2 := x2, free := n } ∧
      State.record { s with resKind := k, v0 := x0, v1 := x1, v2 := x2, free := n } = out

theorem delivers_pressure (m c l : Byte) : DeliversRecord 0x02#8 .pressure [m, c, l]
    (.pressure (numDiv (ofExact (decP m c l)) (lit 100 1)) (numDiv (ofExact (decP m c l)) (lit 3386 1))
      (numDiv (ofExact (decP m c l)) (lit 6895 1))) := by
  intro s _ hraw
  obtain ⟨rfl, rfl, rfl⟩ : s.raw.b0 = m ∧ s.raw.b1 = c ∧ s.raw.b2 = l := by simpa [RawBuffer.list] using hraw
  exact ⟨.pressure, _, _, _, s.free, rfl, rfl⟩

theorem delivers_altitude (m c l : Byte) : DeliversRecord 0x03#8 .altitude [m, c, l]
    (.altitude (ofExact (decA m c l)) (numMul (ofExact (decA m c l)) (lit 3281 1000))) := by
  intro s hop hraw
  obtain ⟨rfl, rfl, rfl⟩ : s.raw.b0 = m ∧ s.raw.b1 = c ∧ s.raw.b2 = l := by simpa [RawBuffer.list] using hraw
  exact ⟨.altitude, _, _, _, _, runSample_altitude hop, rfl⟩

theorem delivers_temp (u v : Byte) : DeliversRecord 0x04#8 .temperature [u, v]
    (.temp (ofExact (decT u v)) (numAdd (numDiv (numMul (ofExact (decT u v)) (lit 9 1)) (lit 5 1)) (lit 32 1))
      (numAdd (ofExact (decT u v)) (lit 27315 100))) := by
  intro s _ hraw
  obtain ⟨rfl, rfl⟩ : s.raw.b0 = u ∧ s.raw.b1 = v := by simpa [RawBuffer.list] using hraw
  exact ⟨.temp, _, _, _, s.free, rfl, rfl⟩

/-- A command of one cycle, from the port to its record: the cycle puts the sample into RAW (`runs_acquisition`), and the
Decoded step delivers it. -/
theorem runs_oneCycle {s : State} {a op b : Byte} {c : Cycle} {w1 w2 clear sample : List Byte} {rest : List Answer}
    {out : CommandOutcome} (hout : DeliversRecord op c.layout sample out)
    (hh : s.host = []) (hst : s.st = .idle) (hb : s.busy = false) (hid : s.identOk = true)
    (hp : s.cmdPort = some (a ++ op)) (hop : acquisitionOpcode op = true) (hc : cycleOf op false = some c)
    (hclear : ∀ x ∈ clear, x &&& 0x08#8 = 0#8) (hready : b &&& 0x08#8 ≠ 0#8)
    (hmax : Config.pollMax.allows clear.length = true) (hl : sample.length = c.count.toNat) (hl5 : sample.length ≤ 5)
    (ha : s.answers = .ok w1 :: .ok w2 :: (statusAnswers clear ++ .ok [b] :: .ok sample :: rest)) :
    ∃ t, Runs (clear.length + 6) s t ∧ t.st = .idle ∧ t.busy = false ∧ t.lastOutcome = some out ∧
      t.devAddr = s.devAddr ∧ t.identOk = true ∧ t.answers = rest ∧
      t.trace = s.trace ++ cycleTrace s.devAddr c (clear ++ [b]) sample := by
  obtain ⟨raw, k, hraw, hrun⟩ := runs_acquisition hh hst hb hid hp hop hc hclear hready hmax hl hl5 ha
  have hlast := hrun.step (step_decoded hh rfl hc)
  obtain ⟨kind, x0, x1, x2, n, hrec, rfl⟩ :=
    hout ((s.begun op .configWritten).cycled c (clear ++ [b]) sample raw rest clear.length k) rfl hraw
  rw [hrec] at hlast
  exact ⟨_, hlast, rfl, rfl, lastOutcome_record rfl rfl, rfl, hid, rfl, rfl⟩

/-- Settles O47: the three commands are one run (`runs_oneCycle`) with their own row of R162 and record. -/
theorem oneCycleCommandsRun : Obligations.OneCycleCommandsRun := by
  intro op pat start n sample out hrow s a b w1 w2 clear rest hh hst hb hid hp hclear hready hmax ha
  obtain ⟨c, hop, hc, rfl, rfl, rfl, hl, hl5, hout⟩ : ∃ c : Cycle, acquisitionOpcode op = true ∧
      cycleOf op false = some c ∧ c.ctrlPat = pat ∧ c.start = start ∧ c.count = n ∧ sample.length = c.count.toNat ∧
      sample.length ≤ 5 ∧ DeliversRecord op c.layout sample out := by
    rcases hrow with ⟨m, c, l, rfl, rfl, rfl, rfl, rfl, rfl⟩ | ⟨m, c, l, rfl, rfl, rfl, rfl, rfl, rfl⟩ |
      ⟨u, v, rfl, rfl, rfl, rfl, rfl, rfl⟩
    · exact ⟨_, rfl, rfl, rfl, rfl, rfl, rfl, by simp, delivers_pressure m c l⟩
    · exact ⟨_, rfl, rfl, rfl, rfl, rfl, rfl, by simp, delivers_altitude m c l⟩
    · exact ⟨_, rfl, rfl, rfl, rfl, rfl, rfl, by simp, delivers_temp u v⟩
  obtain ⟨t, hrun, hidle, hbusy, hlast, hdev, hid', hrest, htr⟩ :=
    runs_oneCycle hout hh hst hb hid hp hop hc hclear hready hmax hl hl5 ha
  exact ⟨t, hrun, hidle, hbusy, hlast, hdev, hid', hrest, htr.trans (by simp [cycleTrace]), written_of_cycle htr⟩

theorem step_slp_second {s : State} (hh : s.host = []) (hst : s.st = .decoded) (hop : s.opc = 0x05#8)
    (hph : s.phase = true) : step s = .next (s.deliverSlp s.raw.b0 s.raw.b1 s.raw.b2) :=
  (step_decoded hh hst (cycle_slp_second hop hph)).trans (congrArg _ (runSample_slp hop))

/-- R174: GET_SLP from its first cycle's sample in RAW to its record. -/
theorem runs_slp_second {s : State} {b m c l : Byte} {w1 w2 clear : List Byte} {rest : List Answer} (hh : s.host = [])
    (hst : s.st = .decoded) (hop : s.opc = 0x05#8) (hph : s.phase = false) (hclear : ∀ x ∈ clear, x &&& 0x08#8 = 0#8)
    (hready : b &&& 0x08#8 ≠ 0#8) (hmax : Config.pollMax.allows clear.length = true)
    (ha : s.answers = .ok w1 :: .ok w2 :: (statusAnswers clear ++ .ok [b] :: .ok [m, c, l] :: rest)) :
    ∃ t, Runs (clear.length + 6) s t ∧ t.st = .idle ∧ t.busy = false ∧ t.done = true ∧ t.errKind = s.errKind ∧
      t.resKind = .slp ∧
      t.v0 = slp (numDiv (ofExact (decP s.raw.b0 s.raw.b1 s.raw.b2)) (lit 100 1)) (ofExact (decT s.raw.b3 s.raw.b4))
        (ofExact (decA m c l)) ∧
      t.v1 = numDiv t.v0 (lit 33864 1000) ∧ t.v2 = numDiv t.v0 (lit 68948 1000) ∧ t.devAddr = s.devAddr ∧
      t.identOk = s.identOk ∧ t.answers = rest ∧
      t.trace = s.trace ++ cycleTrace s.devAddr ⟨0xB9#8, 0x01#8, 3#8, .altitude⟩ (clear ++ [b]) [m, c, l] := by
  have hhold := step_decoded hh hst (cycle_slp_first hop hph)
  obtain ⟨raw, k, hraw, hrun⟩ := runs_cycle (s := s.runSample .pressureTemperature) hh rfl rfl (cycle_slp_second hop rfl)
    hclear hready hmax rfl (by simp) ha
  obtain ⟨rfl, rfl, rfl⟩ : raw.b0 = m ∧ raw.b1 = c ∧ raw.b2 = l := by simpa [RawBuffer.list] using hraw
  have hk : 1 + (clear.length + 4) + 1 = clear.length + 6 := by omega
  rw [← hk]
  refine ⟨_, ((Runs.one hhold).trans hrun).step (step_slp_second ?_ ?_ ?_ ?_), ?_⟩
  exacts [hh, rfl, hop, rfl, by cases s; exact ⟨rfl, rfl, rfl, rfl, rfl, rfl, rfl, rfl, rfl, rfl, rfl, rfl⟩]

/-- Settles O48: the first cycle runs to its sample (`runs_acquisition`), the second from there to the record
(`runs_slp_second`). -/
theorem getSlpRuns : Obligations.GetSlpRuns := by
  intro s a b0 b1 m c l u v m1 c1 l1 w1 w2 w3 w4 clear0 clear1 rest hh hst hb hid hp hclear0 hready0 hmax0 hclear1 hready1
    hmax1 ha
  have hrow : cycleOf 0x05#8 false = some ⟨0x39#8, 0x01#8, 5#8, .pressureTemperature⟩ := rfl
  obtain ⟨raw, k, hraw, hrun0⟩ := runs_acquisition hh hst hb hid hp rfl hrow hclear0 hready0 hmax0 rfl (by simp) ha
  obtain ⟨rfl, rfl, rfl, rfl, rfl⟩ : raw.b0 = m ∧ raw.b1 = c ∧ raw.b2 = l ∧ raw.b3 = u ∧ raw.b4 = v := by
    simpa [RawBuffer.list] using hraw
  obtain ⟨t, hrun1, hidle, hbusy, hdone, herr, hkind, h0, h1, h2, hdev, hid', hrest, htr⟩ :=
    runs_slp_second (s := (s.begun 0x05#8 .configWritten).cycled ⟨0x39#8, 0x01#8, 5#8, .pressureTemperature⟩
      (clear0 ++ [b0]) [raw.b0, raw.b1, raw.b2, raw.b3, raw.b4] raw _ clear0.length k)
      (w1 := w3) (w2 := w4) (m := m1) (c := c1) (l := l1) (rest := rest) hh rfl rfl rfl hclear1 hready1 hmax1 rfl
  have hk : clear0.length + 5 + (clear1.length + 6) = clear0.length + clear1.length + 11 := by omega
  have hout : t.lastOutcome = some (.slp t.v0 t.v1 t.v2) := by
    rw [lastOutcome_record hdone herr, State.record, hkind]
  refine ⟨t, hk ▸ hrun0.trans hrun1, hidle, hbusy, hdone, herr, hkind, hout, h0, h1, h2, hdev, hid'.trans hid, hrest,
    htr.trans ?_, written_of_cycle htr⟩
  simp [State.cycled, cycleTrace, State.begun, State.accept]

end Sys2Proof.Machine
end

section
/-! How long a command takes (42_operations R176): every answered step of a block that is neither idle nor past `m` STATUS
reads lowers a rank that starts at no more than twice `m + 4`. -/

namespace Sys2Proof.Machine

/-- The command is over, or its poll loop has seen `m` bytes with bit 3 clear. -/
def State.settled (m : Nat) (s : State) : Prop := s.busy = false ∨ s.st = .polling ∧ m ≤ s.pollCnt

/-- How many steps the running cycle, or the single transaction, has still to go, with at most `m` reads. -/
def State.cycleRank (m : Nat) (s : State) : Nat :=
  match s.st with
  | .idle => 0
  | .single => 1
  | .configWritten => if s.sub = true then m + 3 else m + 4
  | .polling => m - s.pollCnt + 2
  | .dataReady => 2
  | .decoded => 1

/-- The steps of the running cycle, and in cycle 0 of GET_SLP those of cycle 1 (R174). -/
def State.rank (m : Nat) (s : State) : Nat :=
  s.cycleRank m + if s.opc = 0x05#8 ∧ s.phase = false then m + 4 else 0

theorem rank_le (m : Nat) (s : State) : s.rank m ≤ 2 * (m + 4) := by
  have hcycle : s.cycleRank m ≤ m + 4 := by
    unfold State.cycleRank
    split
    case h_3 => split <;> omega
    all_goals omega
  unfold State.rank
  split <;> omega

theorem rank_pos {m : Nat} {s : State} (h : s.st ≠ .idle) : 0 < s.rank m := by
  have hcycle : 0 < s.cycleRank m := by
    unfold State.cycleRank
    split
    case h_1 hst => exact absurd hst h
    case h_3 => split <;> omega
    all_goals omega
  exact Nat.add_pos_left hcycle _

/-- Only the first cycle of GET_SLP has another after it, so a step within a cycle need only lower that cycle's rank. -/
theorem rank_lt_of_cycleRank_lt {m : Nat} {s t : State} (ho : t.opc = s.opc) (hp : t.phase = s.phase)
    (h : t.cycleRank m < s.cycleRank m) : t.rank m < s.rank m := by
  rw [State.rank, State.rank, ho, hp]
  exact Nat.add_lt_add_right h _

/-- With an answer at hand, a step of a block that has not settled ends the command or lowers the rank. -/
theorem effect_rank {m : Nat} {s t : State} (hst : s.st ≠ .idle) (hs : ¬ s.settled m) (hno : ∀ rest, ¬ s.noAnswer rest)
    (h : Effect s t) : t.busy = false ∨ t.rank m < s.rank m := by
  cases h with
  | rest h | illegal _ _ h | unconstructed _ _ h | construct _ h | acquire _ _ h | standby _ h => exact absurd h hst
  | wait x rest hr ha => exact absurd ha (hno rest)
  | failed | identified | standbyDone | deliver => exact .inl rfl
  | setUp rest h hsub => exact .inr (rank_lt_of_cycleRank_lt rfl rfl (by simp [State.cycleRank, State.answered, h, hsub]))
  | configured c rest h hsub => exact .inr (rank_lt_of_cycleRank_lt rfl rfl (by simp [State.cycleRank, h, hsub]))
  | ready b rest h =>
    have hm : s.pollCnt < m := Nat.lt_of_not_le fun hm => hs (.inr ⟨h, hm⟩)
    refine .inr (rank_lt_of_cycleRank_lt rfl rfl ?_)
    simp only [State.cycleRank, h]
    omega
  | again b rest h =>
    have hm : s.pollCnt < m := Nat.lt_of_not_le fun hm => hs (.inr ⟨h, hm⟩)
    refine .inr (rank_lt_of_cycleRank_lt rfl rfl ?_)
    simp only [State.cycleRank, State.answered, h]
    omega
  | loaded c bytes rest h => exact .inr (rank_lt_of_cycleRank_lt rfl rfl (by simp [State.cycleRank, h]))
  | hold p u h hop _ _ hph => exact .inr (by simp [State.rank, State.cycleRank, State.dropRaw, h, hop, hph])

theorem effect_host {s t : State} (h : Effect s t) : t.host = s.host := by
  cases h <;> rfl

theorem answers_of_answerIs {s : State} {x : Txn} {r : Reply} {rest : List Answer} (h : s.answerIs x r rest) :
    ∃ a, s.answers = a :: rest := by
  rcases h with ⟨ha, -⟩ | ⟨bytes, ha, -⟩
  · exact ⟨_, ha⟩
  · exact ⟨_, ha⟩

/-- A step uses up at most the next answer. -/
theorem effect_answers {s t : State} (hno : ∀ rest, ¬ s.noAnswer rest) (h : Effect s t) :
    t.answers = s.answers ∨ ∃ a, s.answers = a :: t.answers := by
  cases h
  case wait rest _ ha => exact absurd ha (hno rest)
  case rest | illegal | unconstructed | construct | acquire | standby | hold | deliver => exact .inl rfl
  all_goals exact .inr (answers_of_answerIs ‹_›)

/-- R176: with as many answers as the rank, all of them answers, the block settles within that many steps. -/
theorem settles (m n : Nat) {s : State} (hi : s.Inv) (hh : s.host = []) (ha : ∀ x ∈ s.answers, x ≠ .silent)
    (hr : s.rank m ≤ n) (hn : n ≤ s.answers.length) : ∃ k t, k ≤ n ∧ Runs k s t ∧ t.Inv ∧ t.settled m := by
  induction n generalizing s with
  | zero =>
    have hidle : s.st = .idle := by_contra fun h => absurd (rank_pos (m := m) h) (by omega)
    exact ⟨0, s, Nat.le_refl 0, .refl s, hi, .inl (by simpa [hidle] using hi.busy_iff)⟩
  | succ n ih =>
    by_cases hs : s.settled m
    · exact ⟨0, s, Nat.zero_le _, .refl s, hi, hs⟩
    have hbusy : s.busy = true := by simpa using fun h => hs (.inl h)
    have hno : ∀ rest, ¬ s.noAnswer rest := by
      rintro rest (⟨hnil, -⟩ | hsil)
      · simp [hnil] at hn
      · exact ha .silent (hsil ▸ List.mem_cons_self) rfl
    obtain ⟨t, hmove⟩ := hi.blockStep_goesOn
    have hstep : step s = .next t := (step_of_host_nil hh).trans hmove
    have heff := effect_of_move (blockStep_move hmove)
    have hti := effect_inv hi heff
    obtain hend | hrank := effect_rank (hi.busy_iff.1 hbusy) hs hno heff
    · exact ⟨1, t, by omega, .one hstep, hti, .inl hend⟩
    have hlen : s.answers.length ≤ t.answers.length + 1 ∧ ∀ x ∈ t.answers, x ∈ s.answers := by
      rcases effect_answers hno heff with he | ⟨a, he⟩
      · simp [he]
      · simp +contextual [he]
    obtain ⟨k, u, hk, hrun, hu⟩ := ih hti ((effect_host heff).trans hh) (fun x hx => ha x (hlen.2 x hx)) (by omega)
      (by omega)
    exact ⟨1 + k, u, by omega, (Runs.one hstep).trans hrun, hu⟩

/-- Settles O49: `settles` from any rank; the budget of the block that polls on is the invariant (g). -/
theorem commandsEndOrPollOn : Obligations.CommandsEndOrPollOn := by
  intro m s hi hh ha hn
  obtain ⟨k, t, hk, hrun, hti, hs⟩ := settles m _ hi hh ha (rank_le m s) hn
  exact ⟨k, t, hk, hrun, hs.imp_right fun ⟨hst, hm⟩ => ⟨hst, hm, hti.budget hst⟩⟩

end Sys2Proof.Machine
end
